-- ==== Sys2Proof/Word.lean ====
section
/-! DEFINITION. Bytes, the numbers of heads, sites and blocks, fixed tables, and the plainest word arithmetic. -/

namespace Sys2Proof

/-- One byte of a frame or of a lane unit (R158, R159). -/
abbrev Byte := BitVec 8

/-- A head, H0 to H3 (Principal figures, 00_scope.md). -/
abbrev HeadId := Fin 4

/-- A site of a head, S0 to S15 (Principal figures, 00_scope.md). -/
abbrev SiteId := Fin 16

/-- A repair block of a site, 0 to 15 (R119). -/
abbrev BlockId := Fin 16

/-- The table whose entry at `i` is `f i`. -/
def tabulate {α : Type} {n : Nat} (f : Fin n → α) : Vector α n :=
  ⟨(List.ofFn f).toArray, by simp⟩

@[simp] theorem tabulate_getElem_fin {α : Type} {n : Nat} (f : Fin n → α) (i : Fin n) :
    (tabulate f)[i] = f i := by simp [tabulate]

@[simp] theorem tabulate_getElem {α : Type} {n : Nat} (f : Fin n → α) (i : Nat) (h : i < n) :
    (tabulate f)[i] = f ⟨i, h⟩ := by simp [tabulate]

/-- `Vector.set` at a member of `Fin`. -/
def setAt {α : Type} {n : Nat} (v : Vector α n) (i : Fin n) (x : α) : Vector α n :=
  v.set i.val x i.isLt

@[simp] theorem setAt_self {α : Type} {n : Nat} (v : Vector α n) (i : Fin n) (x : α) :
    (setAt v i x)[i] = x := by simp [setAt]

@[simp] theorem setAt_getElem_self {α : Type} {n : Nat} (v : Vector α n) (i : Fin n) (x : α) (h : i.val < n) :
    (setAt v i x)[i.val] = x := by simp [setAt]

theorem setAt_ne {α : Type} {n : Nat} (v : Vector α n) (i j : Fin n) (x : α) (h : j ≠ i) :
    (setAt v i x)[j] = v[j] := by
  have h' : i.val ≠ j.val := fun e => h (Fin.ext e.symm)
  simp [setAt, Vector.getElem_set_ne, h']

/-- All the members of `Fin n`, from 0 up. -/
def allFin (n : Nat) : List (Fin n) := List.ofFn id

@[simp] theorem mem_allFin {n : Nat} (i : Fin n) : i ∈ allFin n := by simp [allFin]

/-- The `n` bytes of a number, most significant byte first (R158); the number is cut to `n` bytes. -/
def natBytes : Nat → Nat → List Byte
  | 0, _ => []
  | n + 1, v => BitVec.ofNat 8 (v / 256 ^ n) :: natBytes n v

@[simp] theorem length_natBytes (n v : Nat) : (natBytes n v).length = n := by
  induction n with
  | zero => rfl
  | succ n ih => simp [natBytes, ih]

/-- The number that bytes carry, most significant byte first (R158). -/
def beNat (bs : List Byte) : Nat := bs.foldl (fun a b => a * 256 + b.toNat) 0

/-- A count that saturates: one more, but never above `top` (Conventions, 00_scope.md). -/
def satSucc (top n : Nat) : Nat := min (n + 1) top

/-- How many bits of a word are set (R94). -/
def popCount {w : Nat} (v : BitVec w) : Nat := (List.range w).countP (fun i => v.getLsbD i)

end Sys2Proof
end

