-- ==== Sys2Proof/Syntax.lean ====
section
/-! DEFINITION. The commands that reach the MH416: one constructor for each row of spec/opcode_table.json.

A command is one whole, indivisible event at the part's boundary or inside it (95_what_each_step_holds.md).
The thirty commands of the Request Executor carry no operand of their own: their operands are the arguments of the
request at the head of the Request Queue, which the command takes (R8). -/

namespace Sys2Proof

/-- A frame of the Pattern Link as received (R159): its kind, its body, whose length is the length field,
and the 16-bit frame check that came with it. -/
structure LinkFrame where
  kind : Byte
  body : List Byte
  check : BitVec 16
  deriving DecidableEq, Repr

/-- What the downstream pair carries while the LIU searches for frame boundaries (R3): idle fill, or a byte. -/
inductive LineSymbol where
  | idle
  | byte (b : Byte)
  deriving DecidableEq, Repr

/-- The causes of Pattern Link loss that arrive as events of their own (R4). The third cause, a run of eight failed
checks, is part of `frameCheckFailure`. -/
inductive LinkLossCause where
  /-- The signal on the downstream pair is lost. -/
  | signalLost
  /-- A length field states a body longer than 48 bytes. -/
  | overlongLength (length : BitVec 16)
  deriving DecidableEq, Repr

/-- The commands: one constructor for each row of spec/opcode_table.json, in the table's order. -/
inductive Instr where
  /-- POWER_ON (R18). -/
  | powerOn
  /-- SYNC_ACQUISITION (R3): `stream` is what the link carried from the start of the search to the last byte of the
  pair that ends it. -/
  | syncAcquisition (stream : List LineSymbol)
  /-- PATTERN_LINK_LOSS (R4). -/
  | patternLinkLoss (cause : LinkLossCause)
  /-- BURST (R5). -/
  | burst (f : LinkFrame)
  /-- REQUEST_FRAME (R7). -/
  | requestFrame (f : LinkFrame)
  /-- MALFORMED_FRAME (R1). -/
  | malformedFrame (f : LinkFrame)
  /-- FRAME_CHECK_FAILURE (R2). -/
  | frameCheckFailure (f : LinkFrame)
  /-- UPSTREAM_SEND (R14). -/
  | upstreamSend
  /-- UNKNOWN_REQUEST_CODE (R9). -/
  | unknownRequestCode
  /-- DEVICE_STATUS (R15). -/
  | deviceStatus
  /-- DEVICE_RESET (R16). -/
  | deviceReset
  /-- HEAD_START (R22). -/
  | headStart
  /-- HEAD_RESET (R33). -/
  | headReset
  /-- HEAD_SETUP (R25). -/
  | headSetup
  /-- HEAD_COMMIT (R26). -/
  | headCommit
  /-- HEAD_RELEASE (R27). -/
  | headRelease
  /-- HEAD_STATUS (R28). -/
  | headStatus
  /-- TABLE_WRITE GEOMETRY (R101). -/
  | tableWriteGeometry
  /-- TABLE_WRITE WINDOW (R103). -/
  | tableWriteWindow
  /-- TABLE_WRITE MARKER (R64). -/
  | tableWriteMarker
  /-- TABLE_WRITE LATENCY_CLASS (R21). -/
  | tableWriteLatencyClass
  /-- TABLE_WRITE SITE_LIMITS (R44). -/
  | tableWriteSiteLimits
  /-- TABLE_READ of a Geometry Record (R100). -/
  | tableReadGeometry
  /-- TABLE_READ of a scramble window (R103). -/
  | tableReadWindow
  /-- TABLE_READ of a Marker Table entry (R64). -/
  | tableReadMarker
  /-- TABLE_READ of a Latency Class entry (R21). -/
  | tableReadLatencyClass
  /-- TABLE_READ of a SITE_LIMITS entry (R44). -/
  | tableReadSiteLimits
  /-- TABLE_READ of a Block Record (R133). -/
  | tableReadBlockRecord
  /-- SET_SITES (R43). -/
  | setSites
  /-- SEGMENT_OPEN (R46). -/
  | segmentOpen
  /-- SEGMENT_CLOSE (R47). -/
  | segmentClose
  /-- STOP_SITE (R55). -/
  | stopSite
  /-- VERDICT_READ (R60). -/
  | verdictRead
  /-- REPAIR_READ (R144). -/
  | repairRead
  /-- LOG_READ (R151). -/
  | logRead
  /-- EVENT_CLEAR (R155). -/
  | eventClear
  /-- EVENT_MASK (R156). -/
  | eventMask
  /-- MAINT_ACCESS (R37). -/
  | maintAccess
  /-- HEAD_BURST_SEND (R76), on the lane of head `h`. -/
  | headBurstSend (h : HeadId)
  /-- MAINT_SEND (R38), on the lane of head `h`. -/
  | maintSend (h : HeadId)
  /-- PROBE_SEND (R22), on the lane of head `h`. -/
  | probeSend (h : HeadId)
  /-- BURST_TRANSMIT_END (R77), on the lane of head `h`. -/
  | burstTransmitEnd (h : HeadId)
  /-- ECHO (R23, unit type 0x21) from head `h`, arriving when `after` more lane quanta have passed. -/
  | echo (h : HeadId) (after : Nat)
  /-- ROUND_TRIP_TIMEOUT (R23) of head `h`. -/
  | roundTripTimeout (h : HeadId)
  /-- MAINT_ANSWER (R38, unit type 0x22) from head `h`, with the body of the unit. -/
  | maintAnswer (h : HeadId) (body : List Byte)
  /-- PROXY_TIMEOUT (R39) of head `h`. -/
  | proxyTimeout (h : HeadId)
  /-- SUPPLY_GOOD_FALL (R29) of head `h`. -/
  | supplyGoodFall (h : HeadId)
  /-- SUPPLY_GOOD_RISE (R29) of head `h`. -/
  | supplyGoodRise (h : HeadId)
  /-- FENCE_TIMER_EXPIRY (R30) of head `h`. -/
  | fenceTimerExpiry (h : HeadId)
  /-- LANE_SIGNAL_LOSS (R32) of head `h`. -/
  | laneSignalLoss (h : HeadId)
  /-- LANE_SIGNAL_RETURN (R32) of head `h`. -/
  | laneSignalReturn (h : HeadId)
  /-- UNKNOWN_UNIT_DISCARD (R163): a unit of type `kind`, which is none of 0x20, 0x21 and 0x22, with this body, from head
  `h`. -/
  | unknownUnitDiscard (h : HeadId) (kind : Byte) (body : List Byte)
  /-- RESULT_RECORD (R87): the end of a result-record unit (type 0x20) from head `h`; `unit` is the unit's bytes after its type
  byte (R165). -/
  | resultRecord (h : HeadId) (unit : List Byte)
  /-- TRACKING_EXPIRY (R83) of head `h`. -/
  | trackingExpiry (h : HeadId)
  /-- FAIL_ENTRY_ADMIT (R97) for the lane buffer of head `h`. -/
  | failEntryAdmit (h : HeadId)
  /-- ITEM_TAKE (R117). -/
  | itemTake
  /-- ITEM_COMPLETION (R118). -/
  | itemCompletion
  /-- SOLVE_JOB_TAKE (R136). -/
  | solveJobTake
  /-- SOLVE_JOB_COMPLETION (R140). -/
  | solveJobCompletion
  /-- FAIL_ENTRY_ARRIVAL (R36) on the lane of head `h`. -/
  | failEntryArrival (h : HeadId)
  deriving DecidableEq, Repr

end Sys2Proof
end

