-- ==== Sys2Proof/Decode.lean ====
section
/-! DEFINITION. The reading of a command from a table word: spec/opcode_table.json gives no row of this part any bits,
so no word spells a command (log entry 20). -/

namespace Sys2Proof

/-- The command that a word of the opcode table spells: none, since the table gives no row any bits (log entry 20). -/
def decodeTableWord (_nbits _w : Nat) : Option Instr := none

end Sys2Proof
end

