-- ==== Sys2Proof/Config.lean ====
section
/-! DEFINITION. The part's fixed figures (Principal figures, 00_scope.md) and the free values: what the manual leaves
open, as constants without a body, of which nothing can be proved. -/

namespace Sys2Proof

/-- Places of the Request Queue (R7). -/
def Config.requestQueueSize : Nat := 16
/-- Slots of the Upstream Queue (R11). -/
def Config.upstreamQueueSize : Nat := 32
/-- Places of a Send Queue (R71). -/
def Config.sendQueueSize : Nat := 8
/-- Places of a Compare Tracking Queue (R79). -/
def Config.trackingQueueSize : Nat := 32
/-- Record places of a lane buffer (R34). -/
def Config.laneRecords : Nat := 32
/-- Fail-entry places of a lane buffer, and of one record (R34, R36). -/
def Config.laneEntries : Nat := 1024
/-- Places of the Analysis Queue (R114). -/
def Config.analysisQueueSize : Nat := 512
/-- Places of a Fail Log (R147). -/
def Config.failLogSize : Nat := 256
/-- Fail items taken between two solve jobs (R116). -/
def Config.itemsPerJob : Nat := 8
/-- Failed checks in a row that end IN_SYNC (R4). -/
def Config.failureRunLimit : Nat := 8
/-- The longest downstream body (R3, R4). -/
def Config.maxBody : Nat := 48
/-- The longest round trip and result window, in lane quanta (R21, R23). -/
def Config.maxQuanta : Nat := 16383
/-- Where the round-trip timer stays: at this count the moment of its expiry, 16,383 quanta after the end of the probe, is
past (R23). -/
def Config.roundTripPast : Nat := Config.maxQuanta + 1
/-- The top of a 16-bit count that saturates (R2, R7, R41, R45, R80, R121). -/
def Config.countTop : Nat := 65535
/-- Lane quanta in 32 microseconds, the fence delay of code 0 (a quantum is 0.25 microseconds). -/
def Config.fenceQuanta : Nat := 128
/-- Lane quanta in one millisecond (a quantum is 0.25 microseconds). -/
def Config.quantaPerMs : Nat := 4000

/-- FREE VALUE (log entry 11): the order in which one occurrence acts on several heads, where the manual orders none
(R61: the handlings of one burst for different heads are not ordered against each other). -/
opaque Config.freeOrder : Nat → Nat

/-- FREE VALUE (log entry 12): the round trip that an ECHO measures in phase HUNT before the probe has been sent, of
which R23 states no value. -/
opaque Config.freeRoundTrip : Nat → Nat

/-- FREE VALUE (log entry 13): which of several candidate pairs that end on the same byte the LIU takes (R3). -/
opaque Config.freeCandidate : Nat → Nat

/-- FREE VALUE (log entry 14): whether a section without entries, for a site outside the snapshot, counts as a stray
section (R92 gives two sentences that both apply). -/
opaque Config.freeEmptyStray : Nat → Bool

end Sys2Proof
end

