-- ==== Sys2Proof/Machine/State.lean ====
section
/-! DEFINITION. The state of the MH416 as plain data: the link's queues and counts, the shared tables, the four heads
with all that is held per head, the repair analysis, and the commands that wait. -/

namespace Sys2Proof.Machine

/-! ### The Head Record (2.1) -/

/-- The link states of the LIU (1.2). -/
inductive LinkState where
  | outOfSync | inSync
  deriving DecidableEq, Repr

/-- The head states (2.1). -/
inductive HeadState where
  | offline | training | config | ready | testing | draining | solving | fenced
  deriving DecidableEq, Repr

/-- The training phases (2.3). -/
inductive Phase where
  | hunt | profile
  deriving DecidableEq, Repr

/-- The head reasons (2.1). -/
inductive Reason where
  | none | reset | noEcho | outOfTable | laneLost | badProfile | profileTimeout | supply
  deriving DecidableEq, Repr

/-- The check modes of fail entries (R25, R94). -/
inductive CheckMode where
  | none | even | odd | zero
  deriving DecidableEq, Repr

/-- The stop policies (R25, R54). -/
inductive StopPolicy where
  | keepTesting | stopOnReject
  deriving DecidableEq, Repr

/-- The log modes (R25, R148). -/
inductive LogMode where
  | off | always | onTrigger
  deriving DecidableEq, Repr

/-- The setup of a head (R25). The fence delay is held as its code: 32, 64, 128 or 256 microseconds for 0 to 3. -/
structure Setup where
  checkMode : CheckMode
  stopPolicy : StopPolicy
  logMode : LogMode
  fenceCode : Fin 4
  /-- The proxy timeout in milliseconds, 1 to 64. -/
  proxyTimeout : Nat
  deriving DecidableEq, Repr

/-- The setup at power-on (R19): NONE, KEEP_TESTING, OFF, 64 microseconds, 8 ms. -/
def Setup.reset : Setup := ⟨.none, .keepTesting, .off, 1, 8⟩

/-- The profile that training reads from the head (R24). -/
structure Profile where
  siteCount : Nat
  ioMax : Nat
  model : BitVec 16
  deriving DecidableEq, Repr

/-- The eight head events (9.3). -/
inductive HeadEvent where
  | trained | offline | fenced | segmentDone | siteStopped | resultLoss | logOverrun | sequenceError
  deriving DecidableEq, Repr

/-- The ten loss causes (R41). -/
inductive LossCause where
  | timeout | check | framing | headOverflow | sequence | gap | sendOverflow | trackOverflow | fence | laneLost
  deriving DecidableEq, Repr

/-! ### The Site Record (R41) -/

/-- The stop reasons (R41). -/
inductive StopReason where
  | none | failLimit | reject | manual
  deriving DecidableEq, Repr

/-- The verdicts (R41, R58). -/
inductive Verdict where
  | none | pending | pass | repaired | unrepairable | incomplete | masked
  deriving DecidableEq, Repr

/-- A Site Record (R41). The set of loss causes is a word with one bit for each cause, in the order of R162. -/
structure Site where
  present : Bool
  enabledNext : Bool
  enabled : Bool
  stopped : Bool
  stopReason : StopReason
  failLimit : Nat
  rawFails : Nat
  unmapped : Bool
  causes : BitVec 10
  logEnable : Bool
  verdict : Verdict
  deriving DecidableEq, Repr

/-- A Site Record at power-on (R41). -/
def Site.reset : Site := ⟨false, false, false, false, .none, 0, 0, false, 0, false, .none⟩

/-! ### Block Records (R119 to R122) -/

/-- The states of a Block Record (R119). -/
inductive BlockState where
  | idle | collecting | queued | solved | unrepairable | stopped
  deriving DecidableEq, Repr

/-- An entry of a fail list (R121). -/
structure FailListEntry where
  row : Nat
  col : Nat
  hits : Nat
  firstVector : BitVec 32
  deriving DecidableEq, Repr

/-- A Block Record (R119). -/
structure Block where
  state : BlockState
  rows : List Nat
  cols : List Nat
  fails : List FailListEntry
  coveredHits : Nat
  deriving DecidableEq, Repr

/-- "IDLE and empty" (R119). -/
def Block.reset : Block := ⟨.idle, [], [], [], 0⟩

/-- COLLECTING and empty, as SEGMENT_OPEN leaves the blocks of an enabled site (R46). -/
def Block.opened : Block := ⟨.collecting, [], [], [], 0⟩

/-! ### Tables -/

/-- A Geometry Record (R100). -/
structure Geometry where
  loaded : Bool
  rb : Nat
  cb : Nat
  bb : Nat
  ioc : Nat
  sr : Nat
  sc : Nat
  deriving DecidableEq, Repr

/-- A Geometry Record at power-on (R100). -/
def Geometry.reset : Geometry := ⟨false, 0, 0, 0, 0, 0, 0⟩

/-- A Scramble Window (R103): match base M, match mask K, substitute value S, substitute mask Q. -/
structure Window where
  enabled : Bool
  matchBase : BitVec 28
  matchMask : BitVec 28
  substValue : BitVec 28
  substMask : BitVec 28
  deriving DecidableEq, Repr

/-- A Scramble Window at power-on (R103). -/
def Window.reset : Window := ⟨false, 0, 0, 0, 0⟩

/-- The marker actions (R64). -/
inductive MarkerAction where
  | captureOff | captureOn | logArm | endSegment
  deriving DecidableEq, Repr

/-- A Marker Table entry (R64). The head scope is a word with bit h for head Hh. -/
structure Marker where
  enabled : Bool
  matchValue : Byte
  matchMask : Byte
  scope : BitVec 4
  action : MarkerAction
  deriving DecidableEq, Repr

/-- A Marker Table entry at power-on (R64). -/
def Marker.reset : Marker := ⟨false, 0, 0, 0, .captureOff⟩

/-- A Latency Class entry (R21). -/
structure LatencyClass where
  valid : Bool
  maxRoundTrip : Nat
  window : Nat
  deriving DecidableEq, Repr

/-- A Latency Class entry at power-on (R21). -/
def LatencyClass.reset : LatencyClass := ⟨false, 0, 0⟩

/-! ### Bursts, tracking entries and the lane buffer -/

/-- The two orders of a burst (R73). -/
inductive Order where
  | rowFast | colFast
  deriving DecidableEq, Repr

/-- A head burst (R73). -/
structure HeadBurst where
  tag : Byte
  compare : Bool
  order : Order
  /-- The length field as received: 0 means 256. -/
  length : Byte
  baseRow : Nat
  baseCol : Nat
  patternId : BitVec 16
  /-- The site-enable field: bit i for site Si (R69). -/
  sites : BitVec 16
  deriving DecidableEq, Repr

/-- The deadline states of a tracking entry, with the remaining quanta where there are any (5.1). -/
inductive Deadline where
  | waitingSend
  | running (left : Nat)
  | paused (left : Nat)
  | answered
  deriving DecidableEq, Repr

/-- A tracking entry (R72). -/
structure TrackEntry where
  tag : Byte
  baseRow : Nat
  baseCol : Nat
  /-- The number of vectors, 1 to 256. -/
  vectors : Nat
  order : Order
  startIndex : BitVec 32
  sites : BitVec 16
  logArmed : Bool
  deadline : Deadline
  deriving DecidableEq, Repr

/-- A fail entry of a result record (R165): the check bit is absent in check mode NONE. -/
structure FailEntry where
  offset : Byte
  ioMask : BitVec 16
  checkBit : Option Bool
  deriving DecidableEq, Repr

/-- A section of a result record (R165). -/
structure RecordSection where
  site : SiteId
  entries : List FailEntry
  deriving DecidableEq, Repr

/-- A matched result record in the lane buffer: what of it has not been taken in yet (R34, R93). -/
structure BufferedRecord where
  tag : Byte
  sections : List RecordSection
  deriving DecidableEq, Repr

/-- The result record under reception on a lane (R34 to R36): its fail entries counted so far, or a remainder that is
discarded as it arrives. -/
inductive Reception where
  | receiving (entries : Nat)
  | discarding
  deriving DecidableEq, Repr

/-! ### The proxy slot (2.10) -/

/-- Whose access the proxy slot holds (R24, R37): a mainframe access carries the request id and code of its reply. -/
inductive AccessOrigin where
  | profileRead
  | mainframe (id code : Byte)
  deriving DecidableEq, Repr

/-- An access in the proxy slot (R37, R38). -/
structure Access where
  origin : AccessOrigin
  write : Bool
  address : BitVec 24
  data : BitVec 32
  enables : BitVec 4
  /-- The slot's state: waiting when false, sent when true. -/
  sent : Bool
  /-- The lane quanta left of the proxy timer. -/
  timer : Nat
  replyWanted : Bool
  deriving DecidableEq, Repr

/-! ### The Fail Log (R149) -/

/-- The kinds of log entry (R149). -/
inductive LogKind where
  | firstFail | rowRepair | colRepair | blockReject | unmapped
  deriving DecidableEq, Repr

/-- A log entry (R149). -/
structure LogEntry where
  kind : LogKind
  site : SiteId
  block : Option BlockId
  row : Option Nat
  col : Option Nat
  word : Option (BitVec 28)
  vectorIndex : BitVec 32
  deriving DecidableEq, Repr

/-! ### The heads -/

/-- All that the part holds for one head. -/
structure Head where
  /-- Head Record: state (2.1). -/
  state : HeadState
  /-- Head Record: phase, absent outside TRAINING. -/
  phase : Option Phase
  /-- Head Record: reason. -/
  reason : Reason
  /-- Head Record: latency class index. -/
  classIndex : Option (Fin 8)
  /-- Head Record: measured round trip, in lane quanta. -/
  roundTrip : Option Nat
  /-- Head Record: result window, in lane quanta. -/
  resultWindow : Nat
  /-- Head Record: profile. -/
  profile : Option Profile
  /-- Head Record: setup. -/
  setup : Setup
  /-- Head Record: segment generation (R20). -/
  generation : BitVec 8
  /-- Head Record: event set, one bit for each event in the order of R161. -/
  events : BitVec 8
  /-- Head Record: event mask. -/
  mask : BitVec 8
  /-- HLC: level of the supply-good line, an input. -/
  supplyGood : Bool
  /-- HLC: lane quanta left of the running fence timer (R29). -/
  fenceTimer : Option Nat
  /-- HLC: presence of the lane signal, an input (R32). -/
  laneSignal : Bool
  /-- HLC: a PROBE waits to be sent (R22). -/
  probeWaiting : Bool
  /-- HLC: lane quanta passed since the end of the probe, up to 16,384, at which the expiry is past (R23). -/
  roundTripTimer : Option Nat
  /-- HLC: the proxy slot (2.10). -/
  slot : Option Access
  /-- HLC: lane buffer: the records offered and matched, oldest first (R34). -/
  laneBuffer : List BufferedRecord
  /-- HLC: the record under reception (R34). -/
  reception : Option Reception
  /-- HLC: whether the lane is held (R35). -/
  laneHeld : Bool
  /-- HLC: the head burst whose transmission on the lane is under way (R76). -/
  transmitting : Option HeadBurst
  /-- HLC, output: the bytes of the last downstream unit whose transmission began (R164). -/
  laneOut : List Byte
  /-- BDU: Send Queue (R75). -/
  sendQueue : List HeadBurst
  /-- RIU: Compare Tracking Queue (R79). -/
  tracking : List TrackEntry
  /-- RIU: tag counter (R80). -/
  tagCounter : Byte
  /-- RIU: stray count (R80). -/
  strays : Nat
  /-- FAU: Geometry Record (R100). -/
  geometry : Geometry
  /-- FAU: Scramble Window Table (R103). -/
  windows : Vector Window 8
  /-- SCU: Site Records (R41). -/
  sites : Vector Site 16
  /-- SCU: capture flag (R45). -/
  capture : Bool
  /-- SCU: log-armed flag (R45). -/
  logArmed : Bool
  /-- SCU: vector index (R45). -/
  vectorIndex : BitVec 32
  /-- SCU: skipped count (R45). -/
  skipped : Nat
  /-- RAE: the head's Block Records, by site and block (R119). -/
  blocks : Vector (Vector Block 16) 16
  /-- ELU: Fail Log (R147). -/
  log : List LogEntry
  /-- ELU: overrun flag of the Fail Log (R147). -/
  overrun : Bool
  deriving DecidableEq, Repr

/-- No Block Record in use. -/
def Head.idleBlocks : Vector (Vector Block 16) 16 := Vector.replicate 16 (Vector.replicate 16 Block.reset)

/-- A head at power-on (R19, R41, R45, R75, R80, R100, R103, R119, R147, R157). The levels of the two inputs, which the
manual does not give, are DESIGN CHOICE (log entry 7); nothing has been sent on the lane (log entry 8). -/
def Head.reset : Head where
  state := .offline
  phase := none
  reason := .none
  classIndex := none
  roundTrip := none
  resultWindow := 0
  profile := none
  setup := Setup.reset
  generation := 0
  events := 0
  mask := 0
  supplyGood := true
  fenceTimer := none
  laneSignal := true
  probeWaiting := false
  roundTripTimer := none
  slot := none
  laneBuffer := []
  reception := none
  laneHeld := false
  transmitting := none
  laneOut := []
  sendQueue := []
  tracking := []
  tagCounter := 0
  strays := 0
  geometry := Geometry.reset
  windows := Vector.replicate 8 Window.reset
  sites := Vector.replicate 16 Site.reset
  capture := false
  logArmed := false
  vectorIndex := 0
  skipped := 0
  blocks := Head.idleBlocks
  log := []
  overrun := false

/-! ### Repair analysis (chapters 7 and 8) -/

/-- A fail item of the Analysis Queue (R114). -/
structure FailItem where
  head : HeadId
  site : SiteId
  block : BlockId
  row : Nat
  col : Nat
  vectorIndex : BitVec 32
  generation : BitVec 8
  logFlag : Bool
  deriving DecidableEq, Repr

/-- A solve job of the Solve List (R134). -/
structure SolveJob where
  head : HeadId
  site : SiteId
  block : BlockId
  generation : BitVec 8
  deriving DecidableEq, Repr

/-- The lines that a solve job adds to its block (R138). -/
structure Solution where
  rows : List Nat
  cols : List Nat
  deriving DecidableEq, Repr

/-- What the engine does (R115). `overtaken` says that the generation of the work's head has been incremented since
the take (R118, R140). A running job carries what its search found (R137). -/
inductive Engine where
  | idle
  | item (it : FailItem) (overtaken : Bool)
  | job (j : SolveJob) (found : Option Solution) (overtaken : Bool)
  deriving DecidableEq, Repr

/-! ### Requests, replies and notices (10.3) -/

/-- A request (R161): its id, its code and its argument bytes. -/
structure Request where
  id : Byte
  code : Byte
  args : List Byte
  deriving DecidableEq, Repr

/-- The nine reply statuses (R10). -/
inductive Status where
  | done | adjusted | busy | retry | refusedState | badArgument | timeout | aborted | headRefused
  deriving DecidableEq, Repr

/-- What HEAD_STATUS reports (R28), in the order of the rule. -/
structure HeadReport where
  state : HeadState
  phase : Option Phase
  reason : Reason
  classIndex : Option (Fin 8)
  roundTrip : Option Nat
  resultWindow : Nat
  profile : Option Profile
  setup : Setup
  generation : BitVec 8
  events : BitVec 8
  mask : BitVec 8
  vectorIndex : BitVec 32
  skipped : Nat
  strays : Nat
  trackingCount : Nat
  sendCount : Nat
  bufferRecords : Nat
  bufferEntries : Nat
  laneHeld : Bool
  /-- `none` when the proxy slot is empty, otherwise whether its access has been sent. -/
  slotSent : Option Bool
  profileRead : Bool
  supplyGood : Bool
  fenceRunning : Bool
  laneSignal : Bool
  deriving DecidableEq, Repr

/-- What REPAIR_READ reports of one block (R145). -/
structure BlockReport where
  state : BlockState
  rows : List Nat
  cols : List Nat
  failCount : Nat
  coveredHits : Nat
  deriving DecidableEq, Repr

/-- What REPAIR_READ reports (R144). -/
structure RepairReport where
  verdict : Verdict
  stopReason : StopReason
  enabled : Bool
  causes : BitVec 10
  unmapped : Bool
  rawFails : Nat
  blocks : List BlockReport
  deriving DecidableEq, Repr

/-- The bodies of the replies. -/
inductive ReplyBody where
  | empty
  | deviceStatus (crcDiscards requestDrops : Nat) (expected : Option (BitVec 16)) (heads : List HeadState)
      (frames reservations : Nat)
  | headStatus (r : HeadReport)
  | setup (s : Setup)
  | geometry (g : Geometry)
  | window (w : Window)
  | marker (m : Marker)
  | latencyClass (c : LatencyClass)
  | siteLimits (limit : Nat) (logEnable : Bool)
  | block (b : Block)
  | siteSet (sites : BitVec 16)
  | verdicts (verdicts : List Verdict) (reasons : List StopReason)
  | repair (r : RepairReport)
  | log (entries : List LogEntry) (overrun : Bool) (left : Nat)
  | events (set : BitVec 8)
  | answer (data : BitVec 32)
  deriving DecidableEq, Repr

/-- A REPLY frame (R161). -/
structure Reply where
  id : Byte
  code : Byte
  status : Status
  body : ReplyBody
  deriving DecidableEq, Repr

/-- A NOTICE frame (R154). -/
structure Notice where
  head : HeadId
  state : HeadState
  events : BitVec 8
  deriving DecidableEq, Repr

/-- A frame of the Upstream Queue (R11). -/
inductive UpFrame where
  | reply (r : Reply)
  | notice (n : Notice)
  deriving DecidableEq, Repr

/-! ### The machine -/

/-- The state of the part, and the commands that wait. -/
structure State where
  /-- LIU: link state (1.2). -/
  link : LinkState
  /-- LIU: run of consecutive check failures (R3). -/
  failureRun : Nat
  /-- LIU: expected burst sequence; `none` is UNSET (R5). -/
  expected : Option (BitVec 16)
  /-- LIU: CRC discard count (R2). -/
  crcDiscards : Nat
  /-- LIU: request drop count (R7). -/
  requestDrops : Nat
  /-- LIU: Request Queue, oldest first (R7). -/
  requests : List Request
  /-- REX: the request under execution (R8, R18). -/
  executing : Option Request
  /-- LIU: frames of the Upstream Queue, oldest first (R11). -/
  upstream : List UpFrame
  /-- LIU: the heads for which a slot of the Upstream Queue is reserved (R11). -/
  reservations : List HeadId
  /-- LIU, output: the bytes of the last frame whose transmission upstream began (R14). -/
  linkOut : List Byte
  /-- BDU: Marker Table (R64). -/
  markers : Vector Marker 8
  /-- HLC, shared: Latency Class Table (R21). -/
  latency : Vector LatencyClass 8
  /-- The four heads. -/
  heads : Vector Head 4
  /-- RAE: Analysis Queue, oldest first (R114). -/
  analysis : List FailItem
  /-- RAE: Solve List, oldest first (R134). -/
  solveList : List SolveJob
  /-- RAE: the engine (R115). -/
  engine : Engine
  /-- RAE: the arbiter's count (R116). -/
  arbiterCount : Nat
  /-- The model's own: how many free values have been used (log entry 15). -/
  freeCount : Nat
  /-- The model's own: the commands that wait, first in, first out. -/
  pending : List Instr
  deriving DecidableEq, Repr

/-- The machine right after power-on (R18, R19). -/
def State.reset : State where
  link := .outOfSync
  failureRun := 0
  expected := none
  crcDiscards := 0
  requestDrops := 0
  requests := []
  executing := none
  upstream := []
  reservations := []
  linkOut := []
  markers := Vector.replicate 8 Marker.reset
  latency := Vector.replicate 8 LatencyClass.reset
  heads := Vector.replicate 4 Head.reset
  analysis := []
  solveList := []
  engine := .idle
  arbiterCount := 0
  freeCount := 0
  pending := []

/-- The faults. There is none: the manual describes no condition that stops the part (log entry 2). -/
inductive Fault where
  deriving DecidableEq, Repr

/-- The refusals. -/
inductive Refusal where
  /-- Raised by `exec` alone, for a command that has no meaning yet; safe, since nothing is claimed of it. No arm of
  this model raises it. -/
  | notModelled (mnemonic : String)
  deriving DecidableEq, Repr

end Sys2Proof.Machine
end

