-- ==== Sys2Proof/Machine/Operands.lean ====
section
/-! DEFINITION. How the bytes that reach the part are read: the frame check, the frames of the Pattern Link, the
search for synchronisation, the arguments of requests, and the upstream units of the Head Lanes (chapter 10, R1 to
R3). -/

namespace Sys2Proof

/-! ### The frame check (R2, R159) -/

/-- One message bit through the register of the frame check (R159). -/
def crcBit (r : BitVec 16) (bit : Bool) : BitVec 16 :=
  if r.getLsbD 15 = bit then r <<< 1 else (r <<< 1) ^^^ 0x1021

/-- One byte through the register, most significant bit first (R159). -/
def crcByte (r : BitVec 16) (b : Byte) : BitVec 16 :=
  [7, 6, 5, 4, 3, 2, 1, 0].foldl (fun r i => crcBit r (b.getLsbD i)) r

/-- The register after the given bytes, from its preset 0xFFFF (R159). -/
def crcRegister (bs : List Byte) : BitVec 16 := bs.foldl crcByte 0xFFFF

/-- The frame check sent after the given bytes: the register inverted (R159). -/
def frameCheck (bs : List Byte) : BitVec 16 := ~~~ crcRegister bs

/-- The bytes of a frame that the check covers: kind, length and body (R2). -/
def LinkFrame.covered (kind : Byte) (body : List Byte) : List Byte :=
  kind :: (natBytes 2 body.length ++ body)

/-- The bytes of a frame in the order sent (R159). -/
def LinkFrame.bytes (f : LinkFrame) : List Byte :=
  LinkFrame.covered f.kind f.body ++ natBytes 2 f.check.toNat

/-- The frame of the given kind and body with the check that belongs to it. -/
def LinkFrame.sealed (kind : Byte) (body : List Byte) : LinkFrame :=
  ⟨kind, body, frameCheck (LinkFrame.covered kind body)⟩

/-- Whether the check of a received frame passes: the register over the whole frame holds 0x1D0F (R159). -/
def LinkFrame.checkPasses (f : LinkFrame) : Bool := crcRegister f.bytes == 0x1D0F

/-- Whether the length field lets a boundary be placed: 48 or less (R3, R4). -/
def LinkFrame.lengthFits (f : LinkFrame) : Bool := f.body.length ≤ Config.maxBody

/-- A BURST frame of the BURST body length, 11 (R1, R160). -/
def LinkFrame.isBurst (f : LinkFrame) : Bool := f.kind == 0x01 && f.body.length == 11

/-- A REQUEST frame, of any body length (R1). -/
def LinkFrame.isRequest (f : LinkFrame) : Bool := f.kind == 0x02

/-! ### The search for synchronisation (R3) -/

/-- The next `n` symbols, when all are bytes, and what follows them. The manual does not say what becomes of a candidate
whose kind, length, body or check is interrupted by idle fill; here it is passed over, and only consecutive bytes make a
candidate (DESIGN CHOICE, log entry 25). -/
def takeBytes : Nat → List LineSymbol → Option (List Byte × List LineSymbol)
  | 0, l => some ([], l)
  | n + 1, .byte b :: l => (takeBytes n l).map (fun (bs, rest) => (b :: bs, rest))
  | _ + 1, _ => none

/-- The stream without its leading idle fill. -/
def skipIdle : List LineSymbol → List LineSymbol
  | .idle :: l => skipIdle l
  | l => l

/-- The candidate frame at the start of the stream, when it is whole, has a length of 48 or less and passes its
check, and what follows it (R3). -/
def candidateAt (l : List LineSymbol) : Option (LinkFrame × List LineSymbol) :=
  match takeBytes 3 l with
  | none => none
  | some (head, l1) =>
    let n := beNat (head.drop 1)
    if n ≤ Config.maxBody then
      match takeBytes n l1 with
      | none => none
      | some (body, l2) =>
        match takeBytes 2 l2 with
        | none => none
        | some (check, l3) =>
          let f : LinkFrame := ⟨head.getD 0 0, body, BitVec.ofNat 16 (beNat check)⟩
          if f.checkPasses then some (f, l3) else none
    else none

/-- The pair of candidates whose first frame starts the stream: the second frame, and what follows it (R3). -/
def pairAt (l : List LineSymbol) : Option (LinkFrame × List LineSymbol) :=
  match candidateAt l with
  | none => none
  | some (_, rest) => candidateAt (skipIdle rest)

/-- All the pairs of the stream, each by its second frame and by how many symbols follow it (R3: a candidate is tried
at every byte, each independently). -/
def pairsOf : List LineSymbol → List (LinkFrame × Nat)
  | [] => []
  | l@(_ :: rest) => ((pairAt l).map (fun (f, after) => (f, after.length))).toList ++ pairsOf rest

/-- The second frames of the pairs that complete with the last symbol of the stream, when none has completed before
it: the pairs with which the search ends (R3). -/
def acquiredFrames (stream : List LineSymbol) : List LinkFrame :=
  let pairs := pairsOf stream
  if pairs.all (fun p => p.2 == 0) then pairs.map (·.1) else []

end Sys2Proof

namespace Sys2Proof.Machine

/-! ### The BURST body (R160) -/

/-- The fields of a BURST frame (1.1, R160). -/
structure Burst where
  sequence : BitVec 16
  headMask : BitVec 4
  compare : Bool
  order : Order
  marker : Byte
  length : Byte
  baseRow : BitVec 16
  baseCol : BitVec 12
  patternId : BitVec 16
  deriving DecidableEq, Repr

/-- Byte `i` of a body; a missing byte reads as 0. -/
def byteAt (body : List Byte) (i : Nat) : Byte := body.getD i 0

/-- Bytes `i` and `i + 1` of a body as one field (R158). -/
def wordAt (body : List Byte) (i : Nat) : BitVec 16 := byteAt body i ++ byteAt body (i + 1)

/-- A BURST body read by its fields (R160); bits 7 and 6 of byte 2 and bits 7 to 4 of byte 7 are ignored. -/
def Burst.read (body : List Byte) : Burst where
  sequence := wordAt body 0
  headMask := (byteAt body 2).extractLsb' 0 4
  compare := (byteAt body 2).getLsbD 4
  order := if (byteAt body 2).getLsbD 5 then .colFast else .rowFast
  marker := byteAt body 3
  length := byteAt body 4
  baseRow := wordAt body 5
  baseCol := (wordAt body 7).extractLsb' 0 12
  patternId := wordAt body 9

/-- The number of vectors that a length field states: 0 stands for 256 (R61). -/
def vectorsOf (length : Byte) : Nat := if length = 0 then 256 else length.toNat

/-- The number of vectors of a burst (R61). -/
def Burst.vectors (b : Burst) : Nat := vectorsOf b.length

/-- The heads named in a burst's head mask, from H0 up (R61). -/
def Burst.heads (b : Burst) : List HeadId := (allFin 4).filter (fun h => b.headMask.getLsbD h.val)

/-! ### Requests (R161) -/

/-- A REQUEST body read by its header (R161): a missing id or code reads as 0. -/
def Request.read (body : List Byte) : Request := ⟨byteAt body 0, byteAt body 1, body.drop 2⟩

/-- The forms of request: one for each row of the catalogue of 1.5, with TABLE_WRITE and TABLE_READ taken apart by
their table selectors (R161). `unknown` is a code outside the catalogue, and also a TABLE_WRITE or TABLE_READ that
names no table (log entry 9). -/
inductive RequestForm where
  | unknown
  | deviceStatus | deviceReset | headStart | headReset | headSetup | headCommit | headRelease | headStatus
  | writeGeometry | writeWindow | writeMarker | writeLatencyClass | writeSiteLimits
  | readGeometry | readWindow | readMarker | readLatencyClass | readSiteLimits | readBlock
  | setSites | segmentOpen | segmentClose | stopSite | verdictRead | repairRead | logRead | eventClear | eventMask
  | maintAccess
  deriving DecidableEq, Repr

/-- The form of a TABLE_WRITE by its selector (R161). -/
def writeForm (args : List Byte) : RequestForm :=
  match args.head?.map BitVec.toNat with
  | some 0 => .writeGeometry
  | some 1 => .writeWindow
  | some 2 => .writeMarker
  | some 3 => .writeLatencyClass
  | some 4 => .writeSiteLimits
  | _ => .unknown

/-- The form of a TABLE_READ by its selector (R161). -/
def readForm (args : List Byte) : RequestForm :=
  match args.head?.map BitVec.toNat with
  | some 0 => .readGeometry
  | some 1 => .readWindow
  | some 2 => .readMarker
  | some 3 => .readLatencyClass
  | some 4 => .readSiteLimits
  | some 5 => .readBlock
  | _ => .unknown

/-- The form of a request by its code: codes are numbered from 1 in the order of the catalogue (R161). -/
def Request.form (r : Request) : RequestForm :=
  match r.code.toNat with
  | 1 => .deviceStatus
  | 2 => .deviceReset
  | 3 => .headStart
  | 4 => .headReset
  | 5 => .headSetup
  | 6 => .headCommit
  | 7 => .headRelease
  | 8 => .headStatus
  | 9 => writeForm r.args
  | 10 => readForm r.args
  | 11 => .setSites
  | 12 => .segmentOpen
  | 13 => .segmentClose
  | 14 => .stopSite
  | 15 => .verdictRead
  | 16 => .repairRead
  | 17 => .logRead
  | 18 => .eventClear
  | 19 => .eventMask
  | 20 => .maintAccess
  | _ => .unknown

/-- How many argument bytes a form calls for, the selector of a table form among them (R9, R161; log entry 10). -/
def RequestForm.argLength : RequestForm → Nat
  | .unknown => 0
  | .deviceStatus | .deviceReset => 0
  | .headStart | .headReset | .headCommit | .headRelease | .headStatus => 1
  | .headSetup => 6
  | .writeGeometry => 8
  | .writeWindow => 20
  | .writeMarker => 7
  | .writeLatencyClass => 7
  | .writeSiteLimits => 6
  | .readGeometry => 2
  | .readWindow => 3
  | .readMarker => 2
  | .readLatencyClass => 2
  | .readSiteLimits => 3
  | .readBlock => 4
  | .setSites => 3
  | .segmentOpen | .segmentClose | .verdictRead => 1
  | .stopSite | .repairRead | .logRead | .eventClear | .eventMask => 2
  | .maintAccess => 11

/-- The argument bytes that name a head, a site, a block or a table entry, each with the bound it lies below (R9). -/
def RequestForm.indices : RequestForm → List (Nat × Nat)
  | .unknown | .deviceStatus | .deviceReset => []
  | .headStart | .headReset | .headSetup | .headCommit | .headRelease | .headStatus => [(0, 4)]
  | .writeGeometry | .readGeometry => [(1, 4)]
  | .writeWindow | .readWindow => [(1, 4), (2, 8)]
  | .writeMarker | .readMarker | .writeLatencyClass | .readLatencyClass => [(1, 8)]
  | .writeSiteLimits | .readSiteLimits => [(1, 4), (2, 16)]
  | .readBlock => [(1, 4), (2, 16), (3, 16)]
  | .setSites | .segmentOpen | .segmentClose | .verdictRead | .logRead | .eventClear | .eventMask | .maintAccess =>
    [(0, 4)]
  | .stopSite | .repairRead => [(0, 4), (1, 16)]

/-- Argument byte `i` (R161). -/
def Request.arg (r : Request) (i : Nat) : Byte := byteAt r.args i

/-- The number carried by the `n` argument bytes from byte `i` on (R158, R161). -/
def Request.num (r : Request) (i n : Nat) : Nat := beNat ((r.args.drop i).take n)

/-- A flag argument: 0 is no, any other value yes (R162). -/
def Request.flag (r : Request) (i : Nat) : Bool := r.arg i != 0

/-- Argument byte `i` as a head, in range once R9 has been applied. -/
def Request.headAt (r : Request) (i : Nat) : HeadId := Fin.ofNat 4 (r.arg i).toNat

/-- Argument byte `i` as a site or block, in range once R9 has been applied. -/
def Request.siteAt (r : Request) (i : Nat) : SiteId := Fin.ofNat 16 (r.arg i).toNat

/-- Argument byte `i` as the index of a table of eight, in range once R9 has been applied. -/
def Request.entryAt (r : Request) (i : Nat) : Fin 8 := Fin.ofNat 8 (r.arg i).toNat

/-- Where a form carries its head: a table form after its selector, any other form first. -/
def RequestForm.headPlace : RequestForm → Nat
  | .writeGeometry | .writeWindow | .writeSiteLimits | .readGeometry | .readWindow | .readSiteLimits | .readBlock => 1
  | _ => 0

/-- The head that a request names. -/
def Request.head (r : Request) : HeadId := r.headAt r.form.headPlace

/-- A check mode by its code (R162). -/
def CheckMode.ofCode (c : Byte) : Option CheckMode :=
  match c.toNat with
  | 0 => some .none | 1 => some .even | 2 => some .odd | 3 => some .zero | _ => Option.none

/-- A stop policy by its code (R162). -/
def StopPolicy.ofCode (c : Byte) : Option StopPolicy :=
  match c.toNat with
  | 0 => some .keepTesting | 1 => some .stopOnReject | _ => none

/-- A log mode by its code (R162). -/
def LogMode.ofCode (c : Byte) : Option LogMode :=
  match c.toNat with
  | 0 => some .off | 1 => some .always | 2 => some .onTrigger | _ => none

/-- A fence delay code (R162). -/
def fenceOfCode (c : Byte) : Option (Fin 4) :=
  if h : c.toNat < 4 then some ⟨c.toNat, h⟩ else none

/-- A marker action by its code (R162). -/
def MarkerAction.ofCode (c : Byte) : Option MarkerAction :=
  match c.toNat with
  | 0 => some .captureOff | 1 => some .captureOn | 2 => some .logArm | 3 => some .endSegment | _ => none

/-- A number taken to the nearest value from `lo` to `hi` (R10). -/
def clampTo (lo hi n : Nat) : Nat := min (max n lo) hi

/-- DONE when the arguments were taken as given, ADJUSTED otherwise (R10). -/
def doneOr (adjusted : Bool) : Status := if adjusted then .adjusted else .done

/-! ### Upstream units of the Head Lanes (R163 to R165) -/

/-- The upstream units of the Head Lanes that are known (R163). -/
inductive UpstreamUnit where
  | resultRecord | echo | maintAnswer
  deriving DecidableEq, Repr

/-- The unit that an upstream type byte names: 0x20 a result record, 0x21 ECHO, 0x22 MAINT_ANSWER, and no other type a
unit (R163). -/
def upstreamUnit (kind : Byte) : Option UpstreamUnit :=
  if kind = 0x20 then some .resultRecord
  else if kind = 0x21 then some .echo
  else if kind = 0x22 then some .maintAnswer
  else none

/-- Whether an upstream unit is of a known type (R163). -/
def knownUnit (kind : Byte) : Bool := (upstreamUnit kind).isSome

/-- The command that stands for the end of an upstream unit on the lane of head `h`, by its type byte (R163): a result
record brings its unit after the type byte, an ECHO's body is not read (R164) and no quantum passes before it here (log
entry 3), and a unit of an unknown type is discarded. -/
def commandOfUnit (h : HeadId) (kind : Byte) (body : List Byte) : Instr :=
  match upstreamUnit kind with
  | some .resultRecord => .resultRecord h body
  | some .echo => .echo h 0
  | some .maintAnswer => .maintAnswer h body
  | none => .unknownUnitDiscard h kind body

/-- Whether a MAINT_ANSWER says OK (R164): a missing byte reads as 0. -/
def answerOk (body : List Byte) : Bool := byteAt body 0 == 0

/-- The data of a MAINT_ANSWER (R164). -/
def answerData (body : List Byte) : BitVec 32 := wordAt body 1 ++ wordAt body 3

/-- The profile word read by its fields (R24, R164): absent when a count is 0 or above 16. -/
def Profile.read (data : BitVec 32) : Option Profile :=
  let siteCount := (data.extractLsb' 0 8).toNat
  let ioMax := (data.extractLsb' 8 8).toNat
  if 1 ≤ siteCount ∧ siteCount ≤ 16 ∧ 1 ≤ ioMax ∧ ioMax ≤ 16 then
    some ⟨siteCount, ioMax, data.extractLsb' 16 16⟩
  else none

/-- The bytes of one fail entry: 3 in check mode NONE and 4 in the others (R165). -/
def CheckMode.entrySize : CheckMode → Nat
  | .none => 3
  | _ => 4

/-- The whole fail entries that a lane counts in what has arrived of the given number of sections (R165). -/
def countSections (size : Nat) : Nat → List Byte → Nat
  | 0, _ => 0
  | n + 1, bs =>
    if bs.length < 3 then 0
    else
      let announced := (wordAt bs 1).toNat
      let content := bs.drop 3
      let whole := min announced (content.length / size)
      whole + countSections size n (content.drop (announced * size))

/-- The fail entries that the HLC counts in a result-record unit (R165). -/
def countEntries (mode : CheckMode) (unit : List Byte) : Nat :=
  countSections mode.entrySize ((byteAt unit 1).extractLsb' 0 5).toNat (unit.drop 2)

/-- The head overflow flag of a result record (R165). -/
def overflowFlag (unit : List Byte) : Bool := (byteAt unit 1).getLsbD 7

/-- The first fail entry of some content (R165): bits 7 to 1 of the check byte are ignored. -/
def FailEntry.read (mode : CheckMode) (bs : List Byte) : FailEntry where
  offset := byteAt bs 0
  ioMask := wordAt bs 1
  checkBit := if mode = .none then none else some ((byteAt bs 3).getLsbD 0)

/-- The next `n` fail entries of some content, when it holds them, and what follows them (R165). -/
def readEntries (mode : CheckMode) : Nat → List Byte → Option (List FailEntry × List Byte)
  | 0, bs => some ([], bs)
  | n + 1, bs =>
    if bs.length < mode.entrySize then none
    else (readEntries mode n (bs.drop mode.entrySize)).map
      (fun (es, rest) => (FailEntry.read mode bs :: es, rest))

/-- The next `n` sections of some content, when it holds them with legal entry counts, and what follows them (R90,
R165). -/
def readSections (mode : CheckMode) : Nat → List Byte → Option (List RecordSection × List Byte)
  | 0, bs => some ([], bs)
  | n + 1, bs =>
    if bs.length < 3 then none
    else
      let count := (wordAt bs 1).toNat
      if 256 < count then none
      else
        match readEntries mode count (bs.drop 3) with
        | none => none
        | some (es, rest) =>
          (readSections mode n rest).map
            (fun (secs, rest') => (⟨Fin.ofNat 16 ((byteAt bs 0).extractLsb' 0 4).toNat, es⟩ :: secs, rest'))

/-- The sections of a result-record unit that passes the framing check, and `none` for one that fails it (R90,
R165). -/
def readRecord (mode : CheckMode) (unit : List Byte) : Option (List RecordSection) :=
  let count := ((byteAt unit 1).extractLsb' 0 5).toNat
  if unit.getLast? = some 0xA5 ∧ count ≤ 16 then
    match readSections mode count (unit.drop 2).dropLast with
    | some (secs, []) => if (secs.map (·.site)).Nodup then some secs else none
    | _ => none
  else none

end Sys2Proof.Machine
end

