-- ==== Sys2Proof/Machine/Flags.lean ====
section
/-! DEFINITION. The status words and the tests on them: event sets, loss causes, verdicts, the entry check, the tests
of when logging applies and of when a lane is held. -/

namespace Sys2Proof.Machine

/-! ### Events and loss causes -/

/-- The bit of a head event in an event set (R161). -/
def HeadEvent.place : HeadEvent → Nat
  | .trained => 0
  | .offline => 1
  | .fenced => 2
  | .segmentDone => 3
  | .siteStopped => 4
  | .resultLoss => 5
  | .logOverrun => 6
  | .sequenceError => 7

/-- The event set that holds one event alone (R161). -/
def HeadEvent.bit (e : HeadEvent) : BitVec 8 := BitVec.ofNat 8 (2 ^ e.place)

/-- Whether an event is in an event set (R161). -/
def HeadEvent.isIn (e : HeadEvent) (set : BitVec 8) : Bool := set.getLsbD e.place

/-- The bit of a loss cause in a set of loss causes (R162). -/
def LossCause.place : LossCause → Nat
  | .timeout => 0
  | .check => 1
  | .framing => 2
  | .headOverflow => 3
  | .sequence => 4
  | .gap => 5
  | .sendOverflow => 6
  | .trackOverflow => 7
  | .fence => 8
  | .laneLost => 9

/-- The set that holds one loss cause alone (R162). -/
def LossCause.bit (c : LossCause) : BitVec 10 := BitVec.ofNat 10 (2 ^ c.place)

/-- Whether a loss cause is in a set of loss causes (R162). -/
def LossCause.isIn (c : LossCause) (set : BitVec 10) : Bool := set.getLsbD c.place

/-! ### Head states -/

/-- The states in which the supply monitor and the lane-signal monitor of a head are active (R29, R32). -/
def HeadState.monitored : HeadState → Bool
  | .offline | .fenced => false
  | _ => true

/-- TESTING or DRAINING: the states in which records are matched (R86) and sites can be stopped (R54, R55). -/
def HeadState.collecting : HeadState → Bool
  | .testing | .draining => true
  | _ => false

/-- TESTING, DRAINING or SOLVING: a head inside a segment (2.1). -/
def HeadState.inSegment : HeadState → Bool
  | .testing | .draining | .solving => true
  | _ => false

/-- OFFLINE, TRAINING or CONFIG: the states in which the setup, the geometry and the windows can be written (R25,
R101, R103). -/
def HeadState.writable : HeadState → Bool
  | .offline | .training | .config => true
  | _ => false

/-! ### Verdicts -/

/-- Whether a verdict is final (R41). -/
def Verdict.isFinal : Verdict → Bool
  | .none | .pending => false
  | _ => true

/-- Whether a block holds a committed line (R58). -/
def Block.hasLines (b : Block) : Bool := !b.rows.isEmpty || !b.cols.isEmpty

/-- The verdict order, on a site and its blocks as they stand (R58). A block in STOPPED does not count under order 4. -/
def verdictOf (st : Site) (bs : Vector Block 16) : Verdict :=
  if !st.enabled then .masked
  else if bs.toList.any (fun b => b.state == .unrepairable) || st.unmapped
      || st.stopReason == .failLimit || st.stopReason == .reject then .unrepairable
  else if st.causes != 0 || st.stopReason == .manual then .incomplete
  else if bs.toList.any (fun b => b.state != .stopped && b.hasLines) then .repaired
  else .pass

/-! ### The entry check -/

/-- The ones among an entry's offset, IO mask and check bit (R94, R165). -/
def FailEntry.ones (e : FailEntry) : Nat :=
  popCount e.offset + popCount e.ioMask + (if e.checkBit = some true then 1 else 0)

/-- The entry check of the head's check mode (R94). -/
def FailEntry.checkPasses (mode : CheckMode) (e : FailEntry) : Bool :=
  match mode with
  | .even => e.ones % 2 == 0
  | .odd => e.ones % 2 == 1
  | .zero => true
  | .none => true

/-! ### Logging -/

/-- Whether logging applies to a fail with the given log flag (R148). -/
def loggingApplies (logEnable : Bool) (mode : LogMode) (logFlag : Bool) : Bool :=
  logEnable && (mode == .always || (mode == .onTrigger && logFlag))

/-! ### The lane hold -/

/-- The fail entries of one buffered record that have not left the buffer. -/
def BufferedRecord.entryCount (r : BufferedRecord) : Nat := (r.sections.map (fun s => s.entries.length)).sum

/-- The entries counted for the record under reception (R34, R36). -/
def Head.receivedEntries (hd : Head) : Nat :=
  match hd.reception with
  | some (.receiving n) => n
  | _ => 0

/-- The records in a lane buffer, counting the record under reception (R35). -/
def Head.bufferRecords (hd : Head) : Nat :=
  hd.laneBuffer.length + (match hd.reception with
    | some (.receiving _) => 1
    | _ => 0)

/-- The fail entries in a lane buffer, counting those of the record under reception (R35). -/
def Head.bufferEntries (hd : Head) : Nat :=
  (hd.laneBuffer.map BufferedRecord.entryCount).sum + hd.receivedEntries

/-- Whether the lane is to be held (R35): the buffer holds 32 records, or 1,024 entries unless the record under
reception has itself 1,024 entries. -/
def Head.holdDue (hd : Head) : Bool :=
  Config.laneRecords ≤ hd.bufferRecords
    || (Config.laneEntries ≤ hd.bufferEntries && hd.receivedEntries != Config.laneEntries)

/-- A deadline when its head's lane becomes held (R82). -/
def Deadline.pause : Deadline → Deadline
  | .running n => .paused n
  | d => d

/-- A deadline when its head's lane is released (R82). -/
def Deadline.resume : Deadline → Deadline
  | .paused n => .running n
  | d => d

/-- A deadline after `n` lane quanta: a RUNNING one counts down to 0 and stays there (R82). -/
def Deadline.elapse (n : Nat) : Deadline → Deadline
  | .running m => .running (m - n)
  | d => d

/-- Whether a tracking entry awaits its record (5.1). -/
def TrackEntry.unanswered (e : TrackEntry) : Bool := e.deadline != .answered

/-! ### Delays -/

/-- The fence delay of a setup, in lane quanta (R25: 32, 64, 128 or 256 microseconds for codes 0 to 3). -/
def Setup.fenceDelay (s : Setup) : Nat := Config.fenceQuanta * 2 ^ s.fenceCode.val

/-- The proxy timeout of a setup, in lane quanta (R25). -/
def Setup.proxyDelay (s : Setup) : Nat := Config.quantaPerMs * s.proxyTimeout

end Sys2Proof.Machine
end

