-- ==== Sys2Proof/Machine/Replies.lean ====
section
/-! DEFINITION. The bytes that the part sends: replies and notices with their frame check (R159, R161, R162) and the
downstream units of the Head Lanes (R164). -/

namespace Sys2Proof.Machine

/-! ### Codes of the enumerated fields (R161, R162) -/

/-- The status byte of a reply (R161). -/
def Status.code : Status → Byte
  | .done => 0 | .adjusted => 1 | .busy => 2 | .retry => 3 | .refusedState => 4 | .badArgument => 5 | .timeout => 6
  | .aborted => 7 | .headRefused => 8

/-- The code of a head state (R161). -/
def HeadState.code : HeadState → Byte
  | .offline => 0 | .training => 1 | .config => 2 | .ready => 3 | .testing => 4 | .draining => 5 | .solving => 6
  | .fenced => 7

/-- The code of a training phase (R162). -/
def Phase.code : Phase → Byte
  | .hunt => 0 | .profile => 1

/-- The code of a head reason (R162). -/
def Reason.code : Reason → Byte
  | .none => 0 | .reset => 1 | .noEcho => 2 | .outOfTable => 3 | .laneLost => 4 | .badProfile => 5
  | .profileTimeout => 6 | .supply => 7

/-- The code of a check mode (R162). -/
def CheckMode.code : CheckMode → Byte
  | .none => 0 | .even => 1 | .odd => 2 | .zero => 3

/-- The code of a stop policy (R162). -/
def StopPolicy.code : StopPolicy → Byte
  | .keepTesting => 0 | .stopOnReject => 1

/-- The code of a log mode (R162). -/
def LogMode.code : LogMode → Byte
  | .off => 0 | .always => 1 | .onTrigger => 2

/-- The code of a marker action (R162). -/
def MarkerAction.code : MarkerAction → Byte
  | .captureOff => 0 | .captureOn => 1 | .logArm => 2 | .endSegment => 3

/-- The code of a verdict (R162). -/
def Verdict.code : Verdict → Byte
  | .none => 0 | .pending => 1 | .pass => 2 | .repaired => 3 | .unrepairable => 4 | .incomplete => 5 | .masked => 6

/-- The code of a stop reason (R162). -/
def StopReason.code : StopReason → Byte
  | .none => 0 | .failLimit => 1 | .reject => 2 | .manual => 3

/-- The code of a block state (R162). -/
def BlockState.code : BlockState → Byte
  | .idle => 0 | .collecting => 1 | .queued => 2 | .solved => 3 | .unrepairable => 4 | .stopped => 5

/-- The code of a log entry kind (R162). -/
def LogKind.code : LogKind → Byte
  | .firstFail => 0 | .rowRepair => 1 | .colRepair => 2 | .blockReject => 3 | .unmapped => 4

/-! ### Fields (R161, R162) -/

/-- A flag in a reply: 1 for yes, 0 for no (R162). -/
def flagByte (b : Bool) : Byte := if b then 1 else 0

/-- A number in one byte. -/
def oneByte (n : Nat) : Byte := BitVec.ofNat 8 n

/-- A field of `n` bytes that may be absent: its presence byte, then its value bytes, 0 when it is absent (R161). The
presence byte of a field that is present is 1: R161 states only the 0 of an absent field (DESIGN CHOICE, log entry 10). -/
def optField (n : Nat) (v : Option Nat) : List Byte :=
  flagByte v.isSome :: natBytes n (v.getD 0)

/-- A list of varying length: its count byte, then its members (R161). -/
def listField {α : Type} (enc : α → List Byte) (l : List α) : List Byte :=
  oneByte l.length :: l.flatMap enc

/-- A setup (R25). -/
def Setup.bytes (s : Setup) : List Byte :=
  [s.checkMode.code, s.stopPolicy.code, s.logMode.code, oneByte s.fenceCode.val, oneByte s.proxyTimeout]

/-- A profile that may be absent: one presence byte, 1 when it is present, then site count, IO maximum and model code (R24,
R28; DESIGN CHOICE, log entry 10). -/
def profileBytes : Option Profile → List Byte
  | some p => 1 :: oneByte p.siteCount :: oneByte p.ioMax :: natBytes 2 p.model.toNat
  | none => [0, 0, 0, 0, 0]

/-- What HEAD_STATUS returns, in the order of R28. The level of the supply-good line is sent as a flag, 1 for high and 0
for low: R28 reports the level, and R162 gives no code for it (DESIGN CHOICE, log entry 10). -/
def HeadReport.bytes (r : HeadReport) : List Byte :=
  [r.state.code] ++ optField 1 (r.phase.map (fun p => p.code.toNat)) ++ [r.reason.code]
    ++ optField 1 (r.classIndex.map (fun c => c.val)) ++ optField 2 r.roundTrip ++ natBytes 2 r.resultWindow
    ++ profileBytes r.profile ++ r.setup.bytes ++ [r.generation, r.events, r.mask]
    ++ natBytes 4 r.vectorIndex.toNat ++ natBytes 2 r.skipped ++ natBytes 2 r.strays
    ++ [oneByte r.trackingCount, oneByte r.sendCount, oneByte r.bufferRecords] ++ natBytes 2 r.bufferEntries
    ++ [flagByte r.laneHeld, (match r.slotSent with | none => 0 | some false => 1 | some true => 2),
        flagByte r.profileRead, flagByte r.supplyGood, flagByte r.fenceRunning, flagByte r.laneSignal]

/-- A Geometry Record (R100). -/
def Geometry.bytes (g : Geometry) : List Byte :=
  [flagByte g.loaded, oneByte g.rb, oneByte g.cb, oneByte g.bb, oneByte g.ioc, oneByte g.sr, oneByte g.sc]

/-- A Scramble Window (R103). -/
def Window.bytes (w : Window) : List Byte :=
  flagByte w.enabled :: (natBytes 4 w.matchBase.toNat ++ natBytes 4 w.matchMask.toNat ++ natBytes 4 w.substValue.toNat
    ++ natBytes 4 w.substMask.toNat)

/-- A Marker Table entry (R64). -/
def Marker.bytes (m : Marker) : List Byte :=
  [flagByte m.enabled, m.matchValue, m.matchMask, m.scope.setWidth 8, m.action.code]

/-- A Latency Class entry (R21). -/
def LatencyClass.bytes (c : LatencyClass) : List Byte :=
  flagByte c.valid :: (natBytes 2 c.maxRoundTrip ++ natBytes 2 c.window)

/-- An entry of a fail list (R121). -/
def FailListEntry.bytes (e : FailListEntry) : List Byte :=
  natBytes 2 e.row ++ natBytes 2 e.col ++ [oneByte e.hits] ++ natBytes 4 e.firstVector.toNat

/-- A whole Block Record (R133). -/
def Block.bytes (b : Block) : List Byte :=
  [b.state.code] ++ listField (natBytes 2) b.rows ++ listField (natBytes 2) b.cols
    ++ listField FailListEntry.bytes b.fails ++ natBytes 2 b.coveredHits

/-- What REPAIR_READ returns of one block (R145). -/
def BlockReport.bytes (b : BlockReport) : List Byte :=
  [b.state.code] ++ listField (natBytes 2) b.rows ++ listField (natBytes 2) b.cols ++ [oneByte b.failCount]
    ++ natBytes 2 b.coveredHits

/-- What REPAIR_READ returns (R144). The block count of R144 is at once the count byte that R161 puts before a list of
varying length: it is sent once, and not twice (DESIGN CHOICE, log entry 10). -/
def RepairReport.bytes (r : RepairReport) : List Byte :=
  [r.verdict.code, r.stopReason.code, flagByte r.enabled] ++ natBytes 2 r.causes.toNat ++ [flagByte r.unmapped]
    ++ natBytes 2 r.rawFails ++ listField BlockReport.bytes r.blocks

/-- A log entry (R149). -/
def LogEntry.bytes (e : LogEntry) : List Byte :=
  [e.kind.code, oneByte e.site.val] ++ optField 1 (e.block.map (fun b => b.val)) ++ optField 2 e.row ++ optField 2 e.col
    ++ optField 4 (e.word.map BitVec.toNat) ++ natBytes 4 e.vectorIndex.toNat

/-- The body of a reply after its header, its fields in the order of their owning rules (R161). The number of entries left
in a LOG_READ reply is sent in two bytes: R151 states no range for it, and a Fail Log holds up to 256 entries (DESIGN
CHOICE, log entry 10). -/
def ReplyBody.bytes : ReplyBody → List Byte
  | .empty => []
  | .deviceStatus crc drops expected heads frames reservations =>
    natBytes 2 crc ++ natBytes 2 drops ++ optField 2 (expected.map BitVec.toNat) ++ heads.map HeadState.code
      ++ [oneByte frames, oneByte reservations]
  | .headStatus r => r.bytes
  | .setup s => s.bytes
  | .geometry g => g.bytes
  | .window w => w.bytes
  | .marker m => m.bytes
  | .latencyClass c => c.bytes
  | .siteLimits limit logEnable => natBytes 2 limit ++ [flagByte logEnable]
  | .block b => b.bytes
  | .siteSet sites => natBytes 2 sites.toNat
  | .verdicts vs rs => vs.map Verdict.code ++ rs.map StopReason.code
  | .repair r => r.bytes
  | .log entries overrun left => listField LogEntry.bytes entries ++ [flagByte overrun] ++ natBytes 2 left
  | .events set => [set]
  | .answer data => natBytes 4 data.toNat

/-- A frame of the given kind and body as sent, with its frame check (R2, R159). -/
def frameBytes (kind : Byte) (body : List Byte) : List Byte := (LinkFrame.sealed kind body).bytes

/-- A frame of the Upstream Queue as sent (R159, R161). -/
def UpFrame.bytes : UpFrame → List Byte
  | .reply r => frameBytes 0x03 (r.id :: r.code :: r.status.code :: r.body.bytes)
  | .notice n => frameBytes 0x04 [oneByte n.head.val, n.state.code, n.events]

/-! ### Downstream units (R163, R164) -/

/-- A head burst as sent on the lane, its type byte first (R164). -/
def HeadBurst.bytes (b : HeadBurst) : List Byte :=
  [0x10, b.tag, (if b.compare then 1 else 0) ||| (if b.order = .colFast then 2 else 0), b.length]
    ++ natBytes 2 b.baseRow ++ natBytes 2 b.baseCol ++ natBytes 2 b.patternId.toNat ++ natBytes 2 b.sites.toNat

/-- The PROBE of training (R164). -/
def probeBytes : List Byte := [0x11]

/-- A MAINT unit (R164). -/
def Access.bytes (a : Access) : List Byte :=
  [0x12, (if a.write then 0x80 else 0) ||| a.enables.setWidth 8] ++ natBytes 3 a.address.toNat
    ++ natBytes 4 a.data.toNat

end Sys2Proof.Machine
end

