-- ==== Sys2Proof/Machine/Ops.lean ====
section
/-! DEFINITION. The named operations that the meanings share: reading and changing one head, the Upstream Queue, events,
the Fail Log, loss causes, stops, the closing actions, the end of draining, deadlines, the hold of a lane, and the
taking of requests. -/

namespace Sys2Proof.Machine

/-! ### One head, one site, one block -/

/-- The head `h`. -/
def State.head (s : State) (h : HeadId) : Head := s.heads[h]

/-- The state with head `h` changed by `f`, and no other head. -/
def State.updHead (s : State) (h : HeadId) (f : Head → Head) : State :=
  { s with heads := setAt s.heads h (f (s.head h)) }

/-- The Site Record of site `i` (R41). -/
def Head.site (hd : Head) (i : SiteId) : Site := hd.sites[i]

/-- The head with the Site Record of site `i` changed by `f`. -/
def Head.updSite (hd : Head) (i : SiteId) (f : Site → Site) : Head :=
  { hd with sites := setAt hd.sites i (f (hd.site i)) }

/-- The head with every Site Record changed. -/
def Head.mapSites (hd : Head) (f : SiteId → Site → Site) : Head :=
  { hd with sites := tabulate (fun i => f i (hd.site i)) }

/-- The Block Record of block `b` of site `i` (R119). -/
def Head.block (hd : Head) (i : SiteId) (b : BlockId) : Block := hd.blocks[i][b]

/-- The head with one Block Record replaced. -/
def Head.setBlock (hd : Head) (i : SiteId) (b : BlockId) (x : Block) : Head :=
  { hd with blocks := setAt hd.blocks i (setAt hd.blocks[i] b x) }

/-- The head with every Block Record changed. -/
def Head.mapBlocks (hd : Head) (f : SiteId → BlockId → Block → Block) : Head :=
  { hd with blocks := tabulate (fun i => tabulate (fun b => f i b (hd.block i b))) }

/-- The set of the sites for which `p` holds, bit i for site Si (R161). -/
def siteSet (p : SiteId → Bool) : BitVec 16 := BitVec.ofFnLE p

/-! ### The Upstream Queue (1.6) -/

/-- The free slots of the Upstream Queue: 32 less its frames, less its reservations, and less the slot assigned to the
reply of the request under execution (R11, R13). -/
def State.freeSlots (s : State) : Nat :=
  Config.upstreamQueueSize - s.upstream.length - s.reservations.length - (if s.executing.isSome then 1 else 0)

/-- The ELU offers a NOTICE for head `h`: admitted in IN_SYNC with two free slots, else not made (R13, R154). -/
def State.offerNotice (s : State) (h : HeadId) : State :=
  if s.link = .inSync ∧ 2 ≤ s.freeSlots then
    { s with upstream := s.upstream ++ [.notice ⟨h, (s.head h).state, (s.head h).events⟩] }
  else s

/-- An event is raised on head `h` (R153). -/
def State.raise (s : State) (h : HeadId) (e : HeadEvent) : State :=
  if e.isIn (s.head h).events then s
  else
    let s' := s.updHead h (fun hd => { hd with events := hd.events ||| e.bit })
    if e.isIn (s.head h).mask then s'.offerNotice h else s'

/-- The reply to the request under execution is placed in the slot assigned to it, and the execution ends (R8). -/
def State.reply (s : State) (st : Status) (body : ReplyBody) : State :=
  match s.executing with
  | none => s
  | some r => { s with upstream := s.upstream ++ [.reply ⟨r.id, r.code, st, body⟩], executing := none }

/-- The reply to a mainframe access that still wants one, in place of the head's reservation (R12); none is made when
the reservation has been released (R12) or the link is out of synchronisation (R3). -/
def State.deferredReply (s : State) (h : HeadId) (a : Access) (st : Status) (body : ReplyBody) : State :=
  match a.origin with
  | .profileRead => s
  | .mainframe id code =>
    if a.replyWanted ∧ h ∈ s.reservations ∧ s.link = .inSync then
      { s with upstream := s.upstream ++ [.reply ⟨id, code, st, body⟩], reservations := s.reservations.erase h }
    else s

/-- The access in the proxy slot of head `h` ends with the given reply; the slot is then empty and its timer stopped
(R38, R39). -/
def State.endAccess (s : State) (h : HeadId) (st : Status) (body : ReplyBody) : State :=
  match (s.head h).slot with
  | none => s
  | some a => (s.updHead h (fun hd => { hd with slot := none })).deferredReply h a st body

/-! ### The Fail Log -/

/-- The ELU is handed a log entry for head `h`: appended, or dropped with the overrun flag set and LOG_OVERRUN raised
(R150). -/
def State.appendLog (s : State) (h : HeadId) (e : LogEntry) : State :=
  if (s.head h).log.length < Config.failLogSize then
    s.updHead h (fun hd => { hd with log := hd.log ++ [e] })
  else
    (s.updHead h (fun hd => { hd with overrun := true })).raise h .logOverrun

/-! ### Loss causes -/

/-- A loss cause is reported for a site: recorded if the site is enabled and not final (R56). -/
def Site.lose (c : LossCause) (st : Site) : Site :=
  if st.enabled && !st.verdict.isFinal then { st with causes := st.causes ||| c.bit } else st

/-- A loss cause is reported for the sites of a set (R56). -/
def Head.lose (c : LossCause) (field : BitVec 16) (hd : Head) : Head :=
  hd.mapSites (fun i st => if field.getLsbD i.val then st.lose c else st)

/-- A loss cause is reported for the sites of a set of head `h`, and an event is raised on the head. -/
def State.lose (s : State) (h : HeadId) (c : LossCause) (field : BitVec 16) (e : HeadEvent) : State :=
  (s.updHead h (Head.lose c field)).raise h e

/-- The sites that are enabled for the segment and not stopped: the site-enable field of a head burst (R69). -/
def Head.siteEnable (hd : Head) : BitVec 16 := siteSet (fun i => (hd.site i).enabled && !(hd.site i).stopped)

/-! ### Final sites and stops -/

/-- The sites for which `p` holds become final by the verdict order, on their blocks as they stand; a final site keeps
its verdict (R58, R59). -/
def Head.finalise (hd : Head) (p : SiteId → Bool) : Head :=
  hd.mapSites (fun i st =>
    if p i && !st.verdict.isFinal then { st with verdict := verdictOf st hd.blocks[i] } else st)

/-- A block at a stop of its site: COLLECTING turns to STOPPED (R53, R122). -/
def Block.stop (b : Block) : Block := if b.state = .collecting then { b with state := .stopped } else b

/-- A block at a fence or lane loss: COLLECTING and QUEUED turn to STOPPED (R31, R122). -/
def Block.close (b : Block) : Block :=
  if b.state = .collecting ∨ b.state = .queued then { b with state := .stopped } else b

/-- The SCU's part of a stop of site `i`: the flag, the reason, the blocks and the verdict (R53). -/
def Head.stopSite (hd : Head) (i : SiteId) (why : StopReason) : Head :=
  ((hd.updSite i (fun st => { st with stopped := true, stopReason := why })).mapBlocks
    (fun j _ b => if j = i then b.stop else b)).finalise (fun j => j == i)

/-- A site that is enabled and not stopped is stopped, and SITE_STOPPED is raised (R53). -/
def State.stopSite (s : State) (h : HeadId) (i : SiteId) (why : StopReason) : State :=
  if ((s.head h).site i).enabled ∧ ¬ ((s.head h).site i).stopped then
    (s.updHead h (fun hd => hd.stopSite i why)).raise h .siteStopped
  else s

/-! ### The generation and the closing actions (R20, R31) -/

/-- The engine when the generation of head `h` is incremented: work of that head is overtaken (R20). -/
def Engine.overtake (h : HeadId) : Engine → Engine
  | .idle => .idle
  | .item it o => .item it (o || it.head == h)
  | .job j found o => .job j found (o || j.head == h)

/-- The segment generation of head `h` is incremented; its fail items leave the Analysis Queue (R20, R114). -/
def State.bumpGeneration (s : State) (h : HeadId) : State :=
  { s.updHead h (fun hd => { hd with generation := hd.generation + 1 }) with
    analysis := s.analysis.filter (fun it => it.head != h)
    engine := s.engine.overtake h }

/-- The queues, the lane buffer and the timers of a head that is closed (R31, R32, R33): what the lane still carries of
a record under reception is discarded as it arrives (R34). -/
def Head.clearQueues (hd : Head) : Head :=
  { hd with
    tracking := [], sendQueue := [], laneBuffer := []
    reception := hd.reception.map (fun _ => Reception.discarding)
    laneHeld := false, fenceTimer := none, probeWaiting := false, roundTripTimer := none }

/-- The loss marking of the closing actions: every enabled site that is not final takes the cause, its COLLECTING and
QUEUED blocks turn to STOPPED, and it is made final (R31). -/
def Head.closeSites (hd : Head) (c : LossCause) : Head :=
  let live : SiteId → Bool := fun i => (hd.site i).enabled && !(hd.site i).verdict.isFinal
  ((hd.mapBlocks (fun i _ b => if live i then b.close else b)).lose c (siteSet live)).finalise live

/-- The closing actions on head `h`, with the loss marking of a cause or without (R31). -/
def State.close (s : State) (h : HeadId) (loss : Option LossCause) : State :=
  let s1 := ((s.bumpGeneration h).updHead h Head.clearQueues).endAccess h .aborted .empty
  let s2 := { s1 with solveList := s1.solveList.filter (fun j => j.head != h) }
  match loss with
  | none => s2
  | some c => s2.updHead h (fun hd => hd.closeSites c)

/-- Lane loss on head `h`: the closing actions with LANE_LOST, then OFFLINE with reason LANE_LOST and the event
OFFLINE; a unit whose reception was cut off is discarded (R32). -/
def State.laneLoss (s : State) (h : HeadId) : State :=
  ((s.close h (some .laneLost)).updHead h
    (fun hd => { hd with state := .offline, phase := none, reason := .laneLost, reception := none })).raise h .offline

/-- Training fails on head `h`: OFFLINE with the given reason and the event OFFLINE; the monitors become inactive
(R23, R24, R29). A PROBE that still waits, when an ECHO that came before it fits no class, is not sent (DESIGN CHOICE, log
entry 12). -/
def State.failTraining (s : State) (h : HeadId) (why : Reason) : State :=
  (s.updHead h (fun hd =>
    { hd with
      state := .offline, phase := none, reason := why, fenceTimer := none, probeWaiting := false
      roundTripTimer := none, slot := none })).raise h .offline

/-! ### Draining (R48, R49) -/

/-- Whether a fail item that carries the current generation of head `h` is queued or being processed (R48). -/
def State.itemsLive (s : State) (h : HeadId) : Bool :=
  s.analysis.any (fun it => it.head == h && it.generation == (s.head h).generation)
    || (match s.engine with
        | .item it _ => it.head == h && it.generation == (s.head h).generation
        | _ => false)

/-- Whether a site still has a block to solve when draining ends: it is enabled and not stopped (R49). -/
def Site.solvable (st : Site) : Bool := st.enabled && !st.stopped

/-- The jobs that the end of draining of head `h` makes: by site from S0 up and, within a site, by block from 0 up
(R49, R134). -/
def State.drainJobs (s : State) (h : HeadId) : List SolveJob :=
  (allFin 16).flatMap (fun i =>
    if ((s.head h).site i).solvable then
      ((allFin 16).filter (fun b => ((s.head h).block i b).state == .collecting)).map
        (fun b => ⟨h, i, b, (s.head h).generation⟩)
    else [])

/-- The blocks of the drained head: COLLECTING turns to QUEUED on each site with jobs (R134). -/
def Head.queueBlocks (hd : Head) : Head :=
  hd.mapBlocks (fun i _ b => if (hd.site i).solvable ∧ b.state = .collecting then { b with state := .queued } else b)

/-- Whether a block of site `i` is in QUEUED. -/
def Head.hasQueued (hd : Head) (i : SiteId) : Bool := (hd.blocks[i]).toList.any (fun b => b.state == .queued)

/-- The sites that the end of draining makes final: enabled, not stopped, and without a block in QUEUED (R49). -/
def Head.finaliseDrained (hd : Head) : Head :=
  hd.finalise (fun i => (hd.site i).solvable && !hd.hasQueued i)

/-- DRAINING ends on head `h` (R49). -/
def State.endDraining (s : State) (h : HeadId) : State :=
  let jobs := s.drainJobs h
  let s1 := { s.updHead h (fun hd => hd.queueBlocks.finaliseDrained) with solveList := s.solveList ++ jobs }
  if jobs = [] then
    (s1.updHead h (fun hd => { hd with state := .ready })).raise h .segmentDone
  else s1.updHead h (fun hd => { hd with state := .solving })

/-- The SCU tests the drain condition of head `h` (R48). -/
def State.testDrain (s : State) (h : HeadId) : State :=
  if (s.head h).state = .draining ∧ (s.head h).tracking = [] ∧ s.itemsLive h = false then s.endDraining h else s

/-- The segment of head `h` is closed: DRAINING, and the drain condition is tested at once (R47). -/
def State.closeSegment (s : State) (h : HeadId) : State :=
  (s.updHead h (fun hd => { hd with state := .draining })).testDrain h

/-! ### Deadlines and the hold of the lane (R35, R82, R83) -/

/-- The first unanswered entry of a tracking queue (R83). -/
def oldestUnanswered (q : List TrackEntry) : Option TrackEntry := q.find? TrackEntry.unanswered

/-- A tracking queue without its first unanswered entry. -/
def dropOldestUnanswered : List TrackEntry → List TrackEntry
  | [] => []
  | e :: q => if e.unanswered then q else e :: dropOldestUnanswered q

/-- A tracking queue without its first ANSWERED entry. -/
def dropFirstAnswered : List TrackEntry → List TrackEntry
  | [] => []
  | e :: q => if e.unanswered then e :: dropFirstAnswered q else q

/-- The oldest unanswered entry of head `h` expires: it is removed with TIMEOUT and RESULT_LOSS, and the retirement is
reported for the drain test (R83, R84). -/
def State.expireOldest (s : State) (h : HeadId) : State :=
  match oldestUnanswered (s.head h).tracking with
  | none => s
  | some e =>
    ((s.updHead h (fun hd => { hd with tracking := dropOldestUnanswered hd.tracking })).lose h .timeout e.sites
      .resultLoss).testDrain h

/-- As long as the oldest unanswered entry of head `h` is RUNNING with 0 quanta, it expires: an overdue entry expires at
the moment it becomes the oldest unanswered one, or at the release of the lane (R83). The first argument bounds how
many can. -/
def State.expireOverdue : Nat → State → HeadId → State
  | 0, s, _ => s
  | n + 1, s, h =>
    if (oldestUnanswered (s.head h).tracking).map TrackEntry.deadline = some (.running 0) then
      State.expireOverdue n (s.expireOldest h) h
    else s

/-- Every overdue entry of head `h` that is now to expire does (R83). -/
def State.settleDeadlines (s : State) (h : HeadId) : State :=
  State.expireOverdue (s.head h).tracking.length s h

/-- The head with its lane held or released as its lane buffer calls for, and its deadlines paused or resumed with it
(R35, R82). -/
def Head.refreshHold (hd : Head) : Head :=
  if hd.holdDue = hd.laneHeld then hd
  else
    { hd with
      laneHeld := hd.holdDue
      tracking := hd.tracking.map (fun e =>
        { e with deadline := if hd.holdDue then e.deadline.pause else e.deadline.resume }) }

/-- The lane of head `h` is held or released as its lane buffer calls for, and an overdue entry that a release lets
expire does (R35, R83). -/
def State.settleLane (s : State) (h : HeadId) : State :=
  (s.updHead h Head.refreshHold).settleDeadlines h

/-! ### Time -/

/-- What `n` lane quanta do to one head: its deadlines and its timers (R23, R29, R39, R82). The round-trip timer counts on
by one beyond the moment of its expiry, so that an ECHO at that moment differs from a later one (log entry 3). -/
def Head.elapse (n : Nat) (hd : Head) : Head :=
  { hd with
    tracking := hd.tracking.map (fun e => { e with deadline := e.deadline.elapse n })
    roundTripTimer := hd.roundTripTimer.map (fun t => min (t + n) Config.roundTripPast)
    fenceTimer := hd.fenceTimer.map (fun t => t - n)
    slot := hd.slot.map (fun a => { a with timer := a.timer - n }) }

/-- `n` lane quanta pass, on all four heads (R82). -/
def State.elapse (s : State) (n : Nat) : State :=
  { s with heads := tabulate (fun h => (s.head h).elapse n) }

/-! ### Acting on several heads where the manual gives no order -/

/-- A member put at each place of a list. -/
def insertions {α : Type} (x : α) : List α → List (List α)
  | [] => [[x]]
  | y :: l => (x :: y :: l) :: (insertions x l).map (y :: ·)

/-- All the orders of a list, its own order first. -/
def orders {α : Type} : List α → List (List α)
  | [] => [[]]
  | x :: l => (orders l).flatMap (insertions x)

/-- Whether two outcomes agree in what several heads share: the Upstream Queue and the Solve List. -/
def sameShared (s t : State) : Bool := s.upstream == t.upstream && s.solveList == t.solveList

/-- `f` is applied for each of the heads, in an order that the manual leaves open (R61; log entry 11): where the
outcome depends on the order, a free value chooses it. -/
def State.inAnyOrder (s : State) (hs : List HeadId) (f : State → HeadId → State) : State :=
  let outcomes := (orders hs).map (fun o => o.foldl f s)
  match outcomes with
  | [] => s
  | first :: rest =>
    if rest.all (sameShared first) then first
    else { outcomes.getD (Config.freeOrder s.freeCount % outcomes.length) first with freeCount := s.freeCount + 1 }

/-! ### The Request Executor (R8, R9) -/

/-- Whether no head is in the given state. -/
def State.noneIn (s : State) (p : HeadState → Bool) : Bool := (allFin 4).all (fun h => !p (s.head h).state)

/-- The acceptance condition of a form in the catalogue of 1.5, on the head that the request names. -/
def RequestForm.accepted (s : State) (h : HeadId) : RequestForm → Bool
  | .headStart => (s.head h).state == .offline
  | .headSetup | .writeGeometry | .writeWindow => (s.head h).state.writable
  | .headCommit => (s.head h).state == .config
  | .headRelease | .segmentOpen => (s.head h).state == .ready
  | .writeMarker => s.noneIn HeadState.collecting
  | .writeLatencyClass => s.noneIn (fun st => st == .training)
  | .writeSiteLimits => !(s.head h).state.inSegment
  | .setSites => (s.head h).state == .config || (s.head h).state == .ready || (s.head h).state.inSegment
  | .segmentClose => (s.head h).state == .testing
  | .stopSite => (s.head h).state.collecting
  | .maintAccess => !((s.head h).state == .offline || (s.head h).state == .training || (s.head h).state == .fenced)
  | _ => true

/-- The checks of REX, in their order; the first that fails decides the reply (R9). -/
def Request.check (r : Request) (s : State) : Option Status :=
  if r.form = .unknown then some .badArgument
  else if r.args.length ≠ r.form.argLength then some .badArgument
  else if r.form.indices.any (fun p => p.2 ≤ (r.arg p.1).toNat) then some .badArgument
  else if r.form.accepted s r.head = false then some .refusedState
  else none

/-- Whether REX can take a request: it is executing none, the LIU is in IN_SYNC and the Upstream Queue has a free slot
(R8). -/
def State.canTake (s : State) : Bool := s.executing.isNone && s.link == .inSync && decide (1 ≤ s.freeSlots)

/-- REX takes the request at the head of the Request Queue: it leaves the queue, and a free slot is assigned to its
reply (R8). -/
def State.take (s : State) (r : Request) (rest : List Request) : State :=
  { s with requests := rest, executing := some r }

/-- REX executes the request at the head of the Request Queue when it is of the given form: the checks of R9, then the
owning block's action (R8). When REX cannot take a request of that form, nothing happens. -/
def State.execute (s : State) (form : RequestForm) (act : Request → State → State) : State :=
  match s.requests with
  | [] => s
  | r :: rest =>
    if s.canTake ∧ r.form = form then
      match r.check (s.take r rest) with
      | some st => (s.take r rest).reply st .empty
      | none => act r (s.take r rest)
    else s

end Sys2Proof.Machine
end

