-- ==== Sys2Proof/Machine/Fau.lean ====
section
/-! DEFINITION. Fail address reconstruction: from a burst offset and an IO mask to repair blocks, rows and column lines
(chapter 6). -/

namespace Sys2Proof.Machine

/-- The logical row and column of the vector at offset `k` of a burst (R105 for COL_FAST, R106 for ROW_FAST). -/
def expand (g : Geometry) (order : Order) (baseRow baseCol k : Nat) : Nat × Nat :=
  match order with
  | .colFast =>
    let t := baseCol + k
    ((baseRow + t / 2 ^ g.cb) % 2 ^ g.rb, t % 2 ^ g.cb)
  | .rowFast =>
    let t := baseRow + k
    (t % 2 ^ g.rb, (baseCol + t / 2 ^ g.rb) % 2 ^ g.cb)

/-- The logical word of a row and column (R107). -/
def logicalWord (g : Geometry) (rc : Nat × Nat) : BitVec 28 := BitVec.ofNat 28 (rc.1 * 2 ^ g.cb + rc.2)

/-- Whether a window matches a logical word (R108). -/
def Window.matchesWord (w : Window) (l : BitVec 28) : Bool :=
  w.enabled && (l &&& w.matchMask) == (w.matchBase &&& w.matchMask)

/-- The first enabled window that matches, in index order (R108). -/
def windowOf (ws : Vector Window 8) (l : BitVec 28) : Option Window := ws.toList.find? (fun w => w.matchesWord l)

/-- The physical word: the substituted bits, cut to the word's width (R109). -/
def physicalWord (g : Geometry) (w : Window) (l : BitVec 28) : Nat :=
  ((l &&& ~~~ w.substMask) ||| (w.substValue &&& w.substMask)).toNat % 2 ^ (g.rb + g.cb)

/-- The physical row of a physical word (R110). -/
def physicalRow (g : Geometry) (p : Nat) : Nat := p / 2 ^ g.cb

/-- The physical column of a physical word (R110). -/
def physicalCol (g : Geometry) (p : Nat) : Nat := p % 2 ^ g.cb

/-- The block of a physical word (R110); it lies below 2^BB, and so below 16. -/
def blockOf (g : Geometry) (p : Nat) : BlockId := Fin.ofNat 16 (physicalRow g p / 2 ^ (g.rb - g.bb))

/-- The row-in-block of a physical word (R110). -/
def rowInBlock (g : Geometry) (p : Nat) : Nat := physicalRow g p % 2 ^ (g.rb - g.bb)

/-- The column line of IO bit `i` in a physical column (R111). -/
def columnLine (g : Geometry) (p i : Nat) : Nat := physicalCol g p * g.ioc + i

/-- The IO bits of a mask that make fails: set and below IOC, from 0 up (R96, R111). -/
def failBits (g : Geometry) (ioMask : BitVec 16) : List Nat :=
  (List.range 16).filter (fun i => ioMask.getLsbD i && decide (i < g.ioc))

/-- A fail as the FAU hands it on: mapped (R112) or unmapped (R113). -/
inductive Fail where
  | mapped (block : BlockId) (row col : Nat) (vectorIndex : BitVec 32)
  | unmapped (word : BitVec 28) (vectorIndex : BitVec 32)
  deriving DecidableEq, Repr

/-- The fails that a fail entry makes against its tracking entry (R104 to R113). -/
def failsOf (hd : Head) (te : TrackEntry) (e : FailEntry) : List Fail :=
  let g := hd.geometry
  let l := logicalWord g (expand g te.order te.baseRow te.baseCol e.offset.toNat)
  let v := te.startIndex + BitVec.ofNat 32 e.offset.toNat
  match windowOf hd.windows l with
  | none => (failBits g e.ioMask).map (fun _ => Fail.unmapped l v)
  | some w =>
    let p := physicalWord g w l
    (failBits g e.ioMask).map (fun i => Fail.mapped (blockOf g p) (rowInBlock g p) (columnLine g p i) v)

/-- Whether a fail is mapped. -/
def Fail.isMapped : Fail → Bool
  | .mapped .. => true
  | .unmapped .. => false

end Sys2Proof.Machine
end

