-- ==== Sys2Proof/Machine/Rae.lean ====
section
/-! DEFINITION. The must-repair analysis of a fail item (7.4, 7.5) and the search of a solve job (8.2), as functions of a
Block Record. -/

namespace Sys2Proof.Machine

/-- A row or a column line of a block. -/
inductive Line where
  | row (r : Nat)
  | col (c : Nat)
  deriving DecidableEq, Repr

/-- Spare rows left (7.4). -/
def Block.rowsLeft (g : Geometry) (b : Block) : Nat := g.sr - b.rows.length

/-- Spare columns left (7.4). -/
def Block.colsLeft (g : Geometry) (b : Block) : Nat := g.sc - b.cols.length

/-- The row count of a row (7.4). -/
def Block.rowCount (b : Block) (r : Nat) : Nat := b.fails.countP (fun e => e.row == r)

/-- The column count of a column line (7.4). -/
def Block.colCount (b : Block) (c : Nat) : Nat := b.fails.countP (fun e => e.col == c)

/-- Whether a line is must (R126). -/
def Block.must (g : Geometry) (b : Block) : Line → Bool
  | .row r => b.colsLeft g < b.rowCount r
  | .col c => b.rowsLeft g < b.colCount c

/-- Whether a spare of the line's own kind is left (R126). -/
def Block.spareFor (g : Geometry) (b : Block) : Line → Bool
  | .row _ => b.rows.length < g.sr
  | .col _ => b.cols.length < g.sc

/-- A line is committed: it joins its list, and the entries on it leave the fail list (R126). -/
def Block.commit (b : Block) : Line → Block
  | .row r => { b with rows := b.rows ++ [r], fails := b.fails.filter (fun e => e.row != r) }
  | .col c => { b with cols := b.cols ++ [c], fails := b.fails.filter (fun e => e.col != c) }

/-- The block becomes UNREPAIRABLE, its lists as they stand (R130). -/
def Block.reject (b : Block) : Block := { b with state := .unrepairable }

/-- A line is tested: left as it is, committed, or the block becomes UNREPAIRABLE (R126). -/
def Block.testLine (g : Geometry) (b : Block) (ln : Line) : Block :=
  if b.must g ln then
    if b.spareFor g ln then b.commit ln else b.reject
  else b

/-- What the processing of an item has done so far: the block, and the lines committed, in order. -/
structure Processing where
  block : Block
  committed : List Line
  deriving DecidableEq, Repr

/-- A line is tested, and noted when it is committed (R126). -/
def Processing.test (g : Geometry) (p : Processing) (ln : Line) : Processing :=
  ⟨p.block.testLine g ln,
    if p.block.must g ln && p.block.spareFor g ln then p.committed ++ [ln] else p.committed⟩

/-- Whether the block has become UNREPAIRABLE. -/
def Processing.rejected (p : Processing) : Bool := p.block.state == .unrepairable

/-- The first must line of a rescan: entry by entry in list order, row before column line (R128). -/
def Block.firstMust (g : Geometry) (b : Block) : List FailListEntry → Option Line
  | [] => none
  | e :: l =>
    if b.must g (.row e.row) then some (.row e.row)
    else if b.must g (.col e.col) then some (.col e.col)
    else b.firstMust g l

/-- Step 4: the item's own row, then its own column line unless the row test made the block UNREPAIRABLE (R127). -/
def Processing.ownLines (g : Geometry) (p : Processing) (row col : Nat) : Processing :=
  let p' := p.test g (.row row)
  if p'.rejected then p' else p'.test g (.col col)

/-- Step 5, the cascade (R128). The first argument bounds the rescans: each but the last uses a spare. -/
def Processing.cascade (g : Geometry) : Nat → Processing → Processing
  | 0, p => p
  | n + 1, p =>
    match p.block.firstMust g p.block.fails with
    | none => p
    | some ln =>
      let p' := p.test g ln
      if p'.rejected then p' else Processing.cascade g n p'

/-- Step 6, the bound test (R129). -/
def Processing.bound (g : Geometry) (p : Processing) : Processing :=
  if 2 * p.block.rowsLeft g * p.block.colsLeft g < p.block.fails.length then { p with block := p.block.reject } else p

/-- Steps 4 to 6 for an item whose entry has been appended (R127 to R129): the cascade is made when step 4 committed a
line, and the bound test when the block is still COLLECTING. -/
def Processing.settle (g : Geometry) (p : Processing) (row col : Nat) : Processing :=
  let p4 := p.ownLines g row col
  let p5 := if !p4.rejected && !p4.committed.isEmpty then p4.cascade g (g.sr + g.sc + 1) else p4
  if p5.rejected then p5 else p5.bound g

/-- Whether a cell lies on a committed line (R123). -/
def Block.covers (b : Block) (row col : Nat) : Bool := b.rows.contains row || b.cols.contains col

/-- Whether the fail list holds the cell (R124). -/
def Block.lists (b : Block) (row col : Nat) : Bool := b.fails.any (fun e => e.row == row && e.col == col)

/-- A covered item: the covered-hit count goes up (R123). -/
def Block.hitCovered (b : Block) : Block := { b with coveredHits := satSucc Config.countTop b.coveredHits }

/-- A duplicate: the hits of its entry go up, saturating at 255 (R124). -/
def Block.hitListed (b : Block) (row col : Nat) : Block :=
  { b with fails := b.fails.map (fun e => if e.row == row && e.col == col then { e with hits := satSucc 255 e.hits } else e) }

/-- The append (R125). -/
def Block.append (b : Block) (row col : Nat) (v : BitVec 32) : Block :=
  { b with fails := b.fails ++ [⟨row, col, 1, v⟩] }

/-- The log entries of a processing that appended its item: FIRST_FAIL, then one for each line committed, then
BLOCK_REJECT if the block became UNREPAIRABLE (R131). -/
def processingLog (it : FailItem) (p : Processing) : List LogEntry :=
  [⟨.firstFail, it.site, some it.block, some it.row, some it.col, none, it.vectorIndex⟩]
    ++ p.committed.map (fun ln =>
      match ln with
      | .row r => ⟨.rowRepair, it.site, some it.block, some r, none, none, it.vectorIndex⟩
      | .col c => ⟨.colRepair, it.site, some it.block, none, some c, none, it.vectorIndex⟩)
    ++ (if p.rejected then [⟨.blockReject, it.site, some it.block, some it.row, some it.col, none, it.vectorIndex⟩]
        else [])

/-- The processing of a fail item against its Block Record: the record after it, and the log entries it makes when
logging applies (R123 to R131). -/
def processItem (g : Geometry) (b : Block) (it : FailItem) : Block × List LogEntry :=
  if b.covers it.row it.col then (b.hitCovered, [])
  else if b.lists it.row it.col then (b.hitListed it.row it.col, [])
  else
    let p := Processing.settle g ⟨b.append it.row it.col it.vectorIndex, []⟩ it.row it.col
    (p.block, processingLog it p)

/-! ### The solve search (R136, R137) -/

/-- The distinct members of a list, in the order in which each first appears. -/
def firsts (l : List Nat) : List Nat :=
  l.foldl (fun acc x => if acc.contains x then acc else acc ++ [x]) []

/-- The subsets of the given size, in lexicographic order of their index lists (R137). -/
def subsetsOf {α : Type} : Nat → List α → List (List α)
  | 0, _ => [[]]
  | _ + 1, [] => []
  | n + 1, x :: l => (subsetsOf n l).map (x :: ·) ++ subsetsOf (n + 1) l

/-- The distinct column lines that a choice of rows leaves failing, in the order in which each first appears (R137,
R138). -/
def leftColumns (b : Block) (chosen : List Nat) : List Nat :=
  firsts ((b.fails.filter (fun e => !chosen.contains e.row)).map (·.col))

/-- The distinct rows of the fail list, in the order in which each first appears (R137). -/
def failRows (b : Block) : List Nat := firsts (b.fails.map (·.row))

/-- The row choices in the order in which they are tried: by size up to the smaller of the spare rows left and the
number of rows, and within one size in lexicographic order (R137). -/
def trials (g : Geometry) (b : Block) : List (List Nat) :=
  (List.range (min (b.rowsLeft g) (failRows b).length + 1)).flatMap (fun n => subsetsOf n (failRows b))

/-- What a solve job finds: the record as it stands for an empty list, else the first choice that leaves no more column
lines than there are spare columns left, else no solution (R136, R137). -/
def solve (g : Geometry) (b : Block) : Option Solution :=
  if b.fails.isEmpty then some ⟨[], []⟩
  else
    ((trials g b).find? (fun rows => (leftColumns b rows).length ≤ b.colsLeft g)).map
      (fun rows => ⟨rows, leftColumns b rows⟩)

/-- The record after a job that found a solution (R138). -/
def Block.applySolution (b : Block) (x : Solution) : Block :=
  { b with state := .solved, rows := b.rows ++ x.rows, cols := b.cols ++ x.cols, fails := [] }

end Sys2Proof.Machine
end

