-- ==== Sys2Proof/Machine/Analysis.lean ====
section
/-! DEFINITION. The meanings of the events of the Repair Analysis Engine: the take and the completion of fail items and
of solve jobs (7.1, 7.2, 8.2, 8.3). -/

namespace Sys2Proof.Machine

/-! ### The arbiter (R116) -/

/-- Whether the engine is idle and the arbiter chooses the item at the head of the Analysis Queue (R115, R116). -/
def State.choosesItem (s : State) : Bool :=
  s.engine == .idle && !s.analysis.isEmpty
    && (s.solveList.isEmpty || decide (s.arbiterCount < Config.itemsPerJob))

/-- Whether the engine is idle and the arbiter chooses the job at the head of the Solve List (R115, R116). -/
def State.choosesJob (s : State) : Bool :=
  s.engine == .idle && !s.solveList.isEmpty
    && (s.analysis.isEmpty || decide (Config.itemsPerJob ≤ s.arbiterCount))

/-! ### Fail items (R115, R117, R118) -/

/-- The dequeue check of a fail item: its generation is the head's current one, its site is not stopped, and its block
is COLLECTING (R117). -/
def State.dequeuePasses (s : State) (it : FailItem) : Bool :=
  it.generation == (s.head it.head).generation && !((s.head it.head).site it.site).stopped
    && ((s.head it.head).block it.site it.block).state == .collecting

/-- The end of an item is reported to the SCU when the item carries its head's current generation, and the SCU tests
the drain condition (R48, R117, R118). -/
def State.itemEnded (s : State) (it : FailItem) : State :=
  if it.generation = (s.head it.head).generation then s.testDrain it.head else s

/-- The engine takes an item: it leaves the queue and counts, and it is under processing or dropped by the dequeue
check (R115, R116, R117). -/
def State.takeItem (s : State) (it : FailItem) (rest : List FailItem) : State :=
  let s' := { s with analysis := rest, arbiterCount := min (s.arbiterCount + 1) Config.itemsPerJob }
  if s'.dequeuePasses it then { s' with engine := .item it false } else s'.itemEnded it

/-- ITEM_TAKE (R114 to R117). -/
def execItemTake (s : State) : Host.Outcome State Fault Refusal :=
  match s.analysis with
  | [] => .next s
  | it :: rest => if s.choosesItem then .next (s.takeItem it rest) else .next s

/-- The log entries that an item's processing makes: all of them when logging applies to the item, and none otherwise
(R131, R148). -/
def State.itemLog (s : State) (it : FailItem) : List LogEntry :=
  let hd := s.head it.head
  if loggingApplies (hd.site it.site).logEnable hd.setup.logMode it.logFlag then
    (processItem hd.geometry (hd.block it.site it.block) it).2
  else []

/-- The SCU is told of a block that became UNREPAIRABLE in the processing of an item (R54, R130). -/
def State.reportReject (s : State) (it : FailItem) : State :=
  if (s.head it.head).setup.stopPolicy = .stopOnReject ∧ (s.head it.head).state.collecting then
    s.stopSite it.head it.site .reject
  else s

/-- The effects of an item's processing, made together: the Block Record, the log entries, and the report of
UNREPAIRABLE after them (R118). -/
def State.applyItem (s : State) (it : FailItem) : State :=
  let hd := s.head it.head
  let b := (processItem hd.geometry (hd.block it.site it.block) it).1
  let logged := (s.itemLog it).foldl (fun t e => t.appendLog it.head e)
    (s.updHead it.head (fun hd => hd.setBlock it.site it.block b))
  if b.state = .unrepairable then logged.reportReject it else logged

/-- The processing of an item is completed: the dequeue check is made again, which an overtaken item fails, and the
effects are made or discarded (R118). The engine is then idle. -/
def State.completeItem (s : State) (it : FailItem) (overtaken : Bool) : State :=
  let s' := { s with engine := .idle }
  (if !overtaken && s'.dequeuePasses it then s'.applyItem it else s').itemEnded it

/-- ITEM_COMPLETION (R118). -/
def execItemCompletion (s : State) : Host.Outcome State Fault Refusal :=
  match s.engine with
  | .item it overtaken => .next (s.completeItem it overtaken)
  | _ => .next s

/-! ### Solve jobs (R136 to R140) -/

/-- SOLVE_JOB_TAKE (R115, R116, R135, R136): the job leaves the list, the count returns to 0, and the job runs on its
block's record as it stands at the take. -/
def execSolveJobTake (s : State) : Host.Outcome State Fault Refusal :=
  match s.solveList with
  | [] => .next s
  | j :: rest =>
    if s.choosesJob then
      let hd := s.head j.head
      .next { s with
        solveList := rest, arbiterCount := 0
        engine := .job j (solve hd.geometry (hd.block j.site j.block)) false }
    else .next s

/-- The record of a block when its job completes: SOLVED with the solution, or UNREPAIRABLE without one (R138, R139). -/
def Block.complete (b : Block) : Option Solution → Block
  | some x => b.applySolution x
  | none => b.reject

/-- The check at the completion of a job: its generation is the head's current one, the head's generation has not been
incremented while it ran, and its block is QUEUED (R140). -/
def State.jobPasses (s : State) (j : SolveJob) (overtaken : Bool) : Bool :=
  j.generation == (s.head j.head).generation && !overtaken
    && ((s.head j.head).block j.site j.block).state == .queued

/-- The site of a completed job becomes final when none of its blocks is left in QUEUED (R50, R140). -/
def Head.settleSite (hd : Head) (i : SiteId) : Head :=
  if hd.hasQueued i then hd else hd.finalise (fun j => j == i)

/-- A job's completion takes effect: the Block Record, the site's verdict, and, when the Solve List holds no further job
of the head, READY with SEGMENT_DONE (R50, R140). -/
def State.applyJob (s : State) (j : SolveJob) (found : Option Solution) : State :=
  let s' := s.updHead j.head (fun hd =>
    (hd.setBlock j.site j.block ((hd.block j.site j.block).complete found)).settleSite j.site)
  if s'.solveList.any (fun k => k.head == j.head) then s'
  else (s'.updHead j.head (fun hd => { hd with state := .ready })).raise j.head .segmentDone

/-- SOLVE_JOB_COMPLETION (R138 to R140): the engine is idle after it, whether it took effect or was discarded. -/
def execSolveJobCompletion (s : State) : Host.Outcome State Fault Refusal :=
  match s.engine with
  | .job j found overtaken =>
    let s' := { s with engine := .idle }
    if s'.jobPasses j overtaken then .next (s'.applyJob j found) else .next s'
  | _ => .next s

end Sys2Proof.Machine
end

