-- ==== Sys2Proof/Machine/Heads.lean ====
section
/-! DEFINITION. The meanings of the requests on the device and on the life of a head: DEVICE_STATUS, DEVICE_RESET and
HEAD_START to HEAD_STATUS (chapters 1 and 2). -/

namespace Sys2Proof.Machine

/-- UNKNOWN_REQUEST_CODE (R9): BAD_ARGUMENT, for a code outside the catalogue and for a table form that names no table
(log entry 9). -/
def execUnknownRequestCode (s : State) : Host.Outcome State Fault Refusal :=
  .next (s.execute .unknown (fun _ s => s.reply .badArgument .empty))

/-- What DEVICE_STATUS reports (R15). -/
def State.deviceReport (s : State) : ReplyBody :=
  .deviceStatus s.crcDiscards s.requestDrops s.expected ((allFin 4).map (fun h => (s.head h).state))
    s.upstream.length s.reservations.length

/-- DEVICE_STATUS (R15). -/
def execDeviceStatus (s : State) : Host.Outcome State Fault Refusal :=
  .next (s.execute .deviceStatus (fun _ s => s.reply .done s.deviceReport))

/-- The head after DEVICE_RESET: its power-on values (R19), but for the inputs, for the unit whose transmission has
begun, which is completed (R75), and for the remainder of a record under reception, which is discarded as it arrives
(R34). -/
def Head.deviceReset (hd : Head) : Head :=
  { Head.reset with
    supplyGood := hd.supplyGood, laneSignal := hd.laneSignal
    transmitting := hd.transmitting, laneOut := hd.laneOut
    reception := hd.reception.map (fun _ => Reception.discarding) }

/-- The ABORTED reply of a head whose access is cut off by DEVICE_RESET and still wants a reply (R16, R40). -/
def State.abortedReply (s : State) (h : HeadId) : List UpFrame :=
  match (s.head h).slot with
  | none => []
  | some a =>
    match a.origin with
    | .profileRead => []
    | .mainframe id code =>
      if a.replyWanted ∧ h ∈ s.reservations then [.reply ⟨id, code, .aborted, .empty⟩] else []

/-- DEVICE_RESET as one event (R16): every block at its power-on values, the link state kept, the reply first and then
the ABORTED replies in head order. -/
def State.deviceReset (s : State) (r : Request) : State :=
  { State.reset with
    link := s.link
    upstream := .reply ⟨r.id, r.code, .done, .empty⟩ :: (allFin 4).flatMap s.abortedReply
    linkOut := s.linkOut
    heads := tabulate (fun h => (s.head h).deviceReset)
    freeCount := s.freeCount
    pending := s.pending }

/-- DEVICE_RESET (R16). -/
def execDeviceReset (s : State) : Host.Outcome State Fault Refusal :=
  .next (s.execute .deviceReset (fun r s => s.deviceReset r))

/-- The head when HEAD_START puts it in TRAINING (R22): the present flags are cleared (R42), and the supply monitor,
now active, starts a fence timer if the line is low (R29). A PROBE waits to be sent. -/
def Head.start (hd : Head) : Head :=
  { hd.mapSites (fun _ st => { st with present := false }) with
    state := .training, phase := some .hunt, reason := .none
    classIndex := none, roundTrip := none, profile := none, resultWindow := 0
    fenceTimer := if hd.supplyGood then none else some hd.setup.fenceDelay
    probeWaiting := true, roundTripTimer := none }

/-- HEAD_START on head `h` (R22): with the lane signal absent, lane loss takes the head to OFFLINE at once (R32). -/
def State.startHead (s : State) (h : HeadId) : State :=
  let s' := s.updHead h Head.start
  if (s.head h).laneSignal then s' else s'.laneLoss h

/-- HEAD_START (R22). -/
def execHeadStart (s : State) : Host.Outcome State Fault Refusal :=
  .next (s.execute .headStart (fun r s => (s.startHead r.head).reply .done .empty))

/-- A Site Record at HEAD_RESET: power-on values, keeping the fail limit, the log enable and enabled_next (R33). -/
def Site.headReset (st : Site) : Site :=
  { Site.reset with enabledNext := st.enabledNext, failLimit := st.failLimit, logEnable := st.logEnable }

/-- The head at HEAD_RESET, after the closing actions (R33): sites, blocks, log, Head Record, segment variables (R45),
tag counter and stray count (R80). -/
def Head.headReset (hd : Head) : Head :=
  { hd.mapSites (fun _ st => st.headReset) with
    blocks := Head.idleBlocks
    log := [], overrun := false
    profile := none, classIndex := none, roundTrip := none, resultWindow := 0
    fenceTimer := none, roundTripTimer := none, probeWaiting := false
    events := 0
    state := .offline, reason := .reset, phase := none
    capture := false, logArmed := false, vectorIndex := 0, skipped := 0
    tagCounter := 0, strays := 0 }

/-- HEAD_RESET on head `h` (R33): the closing actions without loss marking, the reset, and the event OFFLINE in the
emptied set. -/
def State.resetHead (s : State) (h : HeadId) : State :=
  ((s.close h none).updHead h Head.headReset).raise h .offline

/-- HEAD_RESET (R33). -/
def execHeadReset (s : State) : Host.Outcome State Fault Refusal :=
  .next (s.execute .headReset (fun r s => (s.resetHead r.head).reply .done .empty))

/-- The setup that HEAD_SETUP's arguments give (R25): absent when a code is outside its values; the proxy timeout is
taken to 1 to 64 ms. -/
def Request.setup (r : Request) : Option Setup :=
  match CheckMode.ofCode (r.arg 1), StopPolicy.ofCode (r.arg 2), LogMode.ofCode (r.arg 3), fenceOfCode (r.arg 4) with
  | some c, some p, some l, some f => some ⟨c, p, l, f, clampTo 1 64 (r.arg 5).toNat⟩
  | _, _, _, _ => none

/-- The owning block's part of HEAD_SETUP (R25). -/
def State.setup (s : State) (r : Request) : State :=
  match r.setup with
  | none => s.reply .badArgument .empty
  | some x =>
    (s.updHead r.head (fun hd => { hd with setup := x })).reply (doneOr (x.proxyTimeout != (r.arg 5).toNat)) (.setup x)

/-- HEAD_SETUP (R25). -/
def execHeadSetup (s : State) : Host.Outcome State Fault Refusal :=
  .next (s.execute .headSetup (fun r s => s.setup r))

/-- The two conditions of HEAD_COMMIT: a geometry is loaded, and its IOC is no greater than the profile's IO maximum
(R26). -/
def Head.commits (hd : Head) : Bool :=
  match hd.profile with
  | none => false
  | some p => hd.geometry.loaded && decide (hd.geometry.ioc ≤ p.ioMax)

/-- The owning block's part of HEAD_COMMIT (R26). -/
def State.commit (s : State) (h : HeadId) : State :=
  if (s.head h).commits then (s.updHead h (fun hd => { hd with state := .ready })).reply .done .empty
  else s.reply .badArgument .empty

/-- HEAD_COMMIT (R26). -/
def execHeadCommit (s : State) : Host.Outcome State Fault Refusal :=
  .next (s.execute .headCommit (fun r s => s.commit r.head))

/-- HEAD_RELEASE (R27). -/
def execHeadRelease (s : State) : Host.Outcome State Fault Refusal :=
  .next (s.execute .headRelease
    (fun r s => (s.updHead r.head (fun hd => { hd with state := .config })).reply .done .empty))

/-- What HEAD_STATUS reports of a head (R28). -/
def Head.report (hd : Head) : HeadReport where
  state := hd.state
  phase := hd.phase
  reason := hd.reason
  classIndex := hd.classIndex
  roundTrip := hd.roundTrip
  resultWindow := hd.resultWindow
  profile := hd.profile
  setup := hd.setup
  generation := hd.generation
  events := hd.events
  mask := hd.mask
  vectorIndex := hd.vectorIndex
  skipped := hd.skipped
  strays := hd.strays
  trackingCount := hd.tracking.length
  sendCount := hd.sendQueue.length
  bufferRecords := hd.bufferRecords
  bufferEntries := hd.bufferEntries
  laneHeld := hd.laneHeld
  slotSent := hd.slot.map (fun a => a.sent)
  profileRead := hd.slot.any (fun a => a.origin == .profileRead)
  supplyGood := hd.supplyGood
  fenceRunning := hd.fenceTimer.isSome
  laneSignal := hd.laneSignal

/-- HEAD_STATUS (R28). -/
def execHeadStatus (s : State) : Host.Outcome State Fault Refusal :=
  .next (s.execute .headStatus (fun r s => s.reply .done (.headStatus (s.head r.head).report)))

end Sys2Proof.Machine
end

