-- ==== Sys2Proof/Machine/Intake.lean ====
section
/-! DEFINITION. The meanings of the events of the result path up to the Analysis Queue: the arrival of fail entries and
result records, the expiry of tracking entries, and the admission of fail entries (chapters 3.6 and 5, R34 to R36). -/

namespace Sys2Proof.Machine

/-! ### The intake gate (3.6) -/

/-- The UNMAPPED log entry of an unmapped fail (R149). -/
def unmappedLog (i : SiteId) (word : BitVec 28) (v : BitVec 32) : LogEntry :=
  ⟨.unmapped, i, none, none, none, some word, v⟩

/-- Steps 2 and 3 of the gate for a fail of site `i`: it is counted, and an unmapped fail sets the site's flag (R51,
R52). -/
def Head.countFail (hd : Head) (i : SiteId) (f : Fail) : Head :=
  hd.updSite i (fun st =>
    { st with rawFails := satSucc Config.countTop st.rawFails, unmapped := st.unmapped || !f.isMapped })

/-- The log entry of an unmapped fail, when logging applies to it (R52, R148). -/
def State.logUnmapped (s : State) (h : HeadId) (i : SiteId) (logFlag : Bool) : Fail → State
  | .mapped .. => s
  | .unmapped word v =>
    if loggingApplies ((s.head h).site i).logEnable (s.head h).setup.logMode logFlag then
      s.appendLog h (unmappedLog i word v)
    else s

/-- Steps 4 and 5 of the gate: the limit stop (R51), the REJECT stop of an unmapped fail (R52), or the joining of the
Analysis Queue with the head's current generation (R51). -/
def State.passFail (s : State) (h : HeadId) (i : SiteId) (logFlag : Bool) (f : Fail) : State :=
  let st := (s.head h).site i
  if st.failLimit ≠ 0 ∧ st.rawFails = st.failLimit then s.stopSite h i .failLimit
  else
    match f with
    | .unmapped .. => if (s.head h).setup.stopPolicy = .stopOnReject then s.stopSite h i .reject else s
    | .mapped block row col v =>
      { s with analysis := s.analysis ++ [⟨h, i, block, row, col, v, (s.head h).generation, logFlag⟩] }

/-- The intake gate, for one fail of site `i` of head `h` (R51). -/
def State.gate (h : HeadId) (i : SiteId) (logFlag : Bool) (s : State) (f : Fail) : State :=
  if ((s.head h).site i).stopped then s
  else ((s.updHead h (fun hd => hd.countFail i f)).logUnmapped h i logFlag f).passFail h i logFlag f

/-! ### The lane buffer's records -/

/-- The record at the front of the lane buffer without its first section. -/
def dropSection : List BufferedRecord → List BufferedRecord
  | [] => []
  | r :: rest => { r with sections := r.sections.tail } :: rest

/-- The record at the front of the lane buffer without the first entry of its first section (R93). -/
def dropEntry : List BufferedRecord → List BufferedRecord
  | [] => []
  | r :: rest =>
    match r.sections with
    | [] => r :: rest
    | sec :: secs => { r with sections := { sec with entries := sec.entries.tail } :: secs } :: rest

/-- The tracking entry of the record at the front of the lane buffer: the first ANSWERED entry (R93, R99). -/
def frontEntry (q : List TrackEntry) : Option TrackEntry := q.find? (fun e => !e.unanswered)

/-- The record at the front of the lane buffer is finished with: it leaves the buffer, its tracking entry is retired,
and the drain condition is tested (R99). -/
def State.completeRecord (s : State) (h : HeadId) : State :=
  (s.updHead h (fun hd =>
    { hd with laneBuffer := hd.laneBuffer.tail, tracking := dropFirstAnswered hd.tracking })).testDrain h

/-- A section without entries is passed over (R92). For a site outside the snapshot the manual leaves open whether it
counts as a stray section (log entry 14). -/
def State.passEmptySection (s : State) (h : HeadId) (i : SiteId) : State :=
  let dropped := s.updHead h (fun hd => { hd with laneBuffer := dropSection hd.laneBuffer })
  match frontEntry (s.head h).tracking with
  | none => dropped
  | some te =>
    if te.sites.getLsbD i.val then dropped
    else if Config.freeEmptyStray s.freeCount then
      { dropped.updHead h (fun hd => { hd with strays := satSucc Config.countTop hd.strays }) with
        freeCount := s.freeCount + 1 }
    else { dropped with freeCount := s.freeCount + 1 }

/-- The intake passes over sections without entries and finishes with records without sections, up to the next fail
entry of the buffer (R92, R99). A record without entries that stands behind a record with entries left waits for its turn
in the buffer, where it is finished with: R99 says that it is finished with at once, and R93 takes up the records in their
order, so that a record waiting for room holds back those behind it; which of the two comes first the manual does not say
(DESIGN CHOICE, log entry 27). The first argument bounds the sections and records passed. -/
def State.advance : Nat → State → HeadId → State
  | 0, s, _ => s
  | n + 1, s, h =>
    match (s.head h).laneBuffer with
    | [] => s
    | r :: _ =>
      match r.sections with
      | [] => State.advance n (s.completeRecord h) h
      | sec :: _ =>
        match sec.entries with
        | [] => State.advance n (s.passEmptySection h sec.site) h
        | _ :: _ => s

/-- The sections and records of a lane buffer, counted: the bound of an advance. -/
def bufferBound (l : List BufferedRecord) : Nat := (l.map (fun r => r.sections.length + 1)).sum

/-- What follows when entries or records have left the lane buffer of head `h` or joined it: the intake goes on to the
next entry (R99), and the lane is held or released (R35). -/
def State.settleIntake (s : State) (h : HeadId) : State :=
  (State.advance (bufferBound (s.head h).laneBuffer) s h).settleLane h

/-! ### Result records (5.4, 5.5) -/

/-- A stray record: counted, and nothing else (R89). -/
def State.stray (s : State) (h : HeadId) : State :=
  s.updHead h (fun hd => { hd with strays := satSucc Config.countTop hd.strays })

/-- A tracking queue taken apart at the unanswered entry with a tag: the ANSWERED entries before it, the unanswered ones
before it, the entry, and what follows it (R87, R88). -/
structure Matched where
  answered : List TrackEntry
  skipped : List TrackEntry
  entry : TrackEntry
  later : List TrackEntry
  deriving DecidableEq, Repr

/-- The match of a tag against the unanswered entries of a tracking queue (R87). -/
def matchTag (tag : Byte) : List TrackEntry → Option Matched
  | [] => none
  | e :: q =>
    if e.unanswered ∧ e.tag = tag then some ⟨[], [], e, q⟩
    else
      (matchTag tag q).map (fun m =>
        if e.unanswered then { m with skipped := e :: m.skipped } else { m with answered := e :: m.answered })

/-- Skip-ahead: each skipped entry's sites take SEQUENCE, and SEQUENCE_ERROR is raised once any was skipped (R88). -/
def State.skipAhead (s : State) (h : HeadId) (skipped : List TrackEntry) : State :=
  if skipped = [] then s
  else
    (s.updHead h (fun hd => skipped.foldl (fun k e => k.lose .sequence e.sites) hd)).raise h .sequenceError

/-- The record of a matched entry fails its framing check: the entry is retired with FRAMING and RESULT_LOSS (R90). -/
def State.framingFailure (s : State) (h : HeadId) (m : Matched) : State :=
  (((s.updHead h (fun hd => { hd with tracking := m.answered ++ m.later })).lose h .framing m.entry.sites
    .resultLoss).settleDeadlines h).testDrain h

/-- The record of a matched entry passes its framing check: the entry is ANSWERED, an overdue entry behind it may
expire, a set overflow flag is reported (R91), and the record waits in the buffer for its intake. At the end of a record
of 1,024 own entries the hold of the lane falls due at the same moment (R35), and the manual does not say whether the
hold pauses an overdue entry before it expires; here it expires first, and the lane is held afterwards (DESIGN CHOICE,
log entry 26). -/
def State.acceptRecord (s : State) (h : HeadId) (m : Matched) (overflow : Bool) (tag : Byte)
    (secs : List RecordSection) : State :=
  let s1 := (s.updHead h (fun hd =>
    { hd with
      tracking := m.answered ++ { m.entry with deadline := .answered } :: m.later
      laneBuffer := hd.laneBuffer ++ [⟨tag, secs⟩] })).settleDeadlines h
  let s2 := if overflow then s1.lose h .headOverflow m.entry.sites .resultLoss else s1
  s2.settleIntake h

/-- A record is offered to the RIU (R87 to R91): a stray outside TESTING and DRAINING and for a tag that no unanswered
entry has, else matched, by skip-ahead where entries stand before it. -/
def State.offerRecord (s : State) (h : HeadId) (unit : List Byte) : State :=
  let hd := s.head h
  if hd.state.collecting then
    match matchTag (byteAt unit 0) hd.tracking with
    | none => s.stray h
    | some m =>
      let skipped := s.skipAhead h m.skipped
      match readRecord hd.setup.checkMode unit with
      | none => skipped.framingFailure h m
      | some secs => skipped.acceptRecord h m (overflowFlag unit) (byteAt unit 0) secs
  else s.stray h

/-- The end of a result-record unit on the lane of head `h` (R34, R36, R165): a remainder that was being discarded, a
unit shorter than 3 bytes and an oversize record are not offered to the RIU. -/
def State.endRecord (s : State) (h : HeadId) (unit : List Byte) : State :=
  let hd := s.head h
  let ended := s.updHead h (fun hd => { hd with reception := none })
  if hd.reception = some .discarding ∨ unit.length < 3
      ∨ Config.laneEntries < countEntries hd.setup.checkMode unit then ended
  else ended.offerRecord h unit

/-- Whether the fail entries of a record of `n` entries that have not been counted yet can all arrive without the lane
being held before the end of the unit (R35): the record needs a place that leaves fewer than 32 records, and the entries
of the buffer stay below 1,024 up to the record's own 1,023rd. -/
def Head.letsPass (hd : Head) (n : Nat) : Bool :=
  n ≤ hd.receivedEntries
    || (decide (hd.laneBuffer.length + 1 < Config.laneRecords)
      && decide ((hd.laneBuffer.map BufferedRecord.entryCount).sum + min n (Config.laneEntries - 1)
        < Config.laneEntries))

/-- Whether the end of a result-record unit can arrive on a lane: its signal is present, it is not held, and it is not
held before the end of the unit; the rest of a record that is being discarded passes (R34, R35). -/
def Head.letsEnd (hd : Head) (unit : List Byte) : Bool :=
  hd.laneSignal && !hd.laneHeld
    && (hd.reception == some .discarding || hd.letsPass (countEntries hd.setup.checkMode unit))

/-- RESULT_RECORD (R34, R87): no unit ends while the lane is held (R35) or its signal absent. -/
def execResultRecord (h : HeadId) (unit : List Byte) (s : State) : Host.Outcome State Fault Refusal :=
  if (s.head h).letsEnd unit then .next ((s.endRecord h unit).settleLane h) else .next s

/-- The record under reception when a further fail entry of it arrives (R36): counted, or, when it would be the
1,025th, the record is discarded; the remainder of a discarded record is discarded as it arrives. -/
def Reception.arrive : Option Reception → Reception
  | none => .receiving 1
  | some (.receiving n) => if Config.laneEntries ≤ n then .discarding else .receiving (n + 1)
  | some .discarding => .discarding

/-- FAIL_ENTRY_ARRIVAL (R35, R36): no entry arrives while the lane is held or its signal absent. -/
def execFailEntryArrival (h : HeadId) (s : State) : Host.Outcome State Fault Refusal :=
  if (s.head h).laneSignal ∧ ¬ (s.head h).laneHeld then
    .next ((s.updHead h (fun hd => { hd with reception := some (Reception.arrive hd.reception) })).settleLane h)
  else .next s

/-- TRACKING_EXPIRY (R83, R84): what is left of the deadline of the oldest unanswered entry, when it is RUNNING, passes,
and the entry expires; so does an overdue entry that then becomes the oldest unanswered one. -/
def execTrackingExpiry (h : HeadId) (s : State) : Host.Outcome State Fault Refusal :=
  match (oldestUnanswered (s.head h).tracking).map TrackEntry.deadline with
  | some (.running n) => .next ((s.elapse n).settleDeadlines h)
  | _ => .next s

/-! ### The intake of fail entries (5.6) -/

/-- A stray section at the front of the lane buffer is discarded with all its entries and counted (R92). -/
def State.discardSection (s : State) (h : HeadId) : State :=
  s.updHead h (fun hd =>
    { hd with laneBuffer := dropSection hd.laneBuffer, strays := satSucc Config.countTop hd.strays })

/-- The front entry leaves the lane buffer (R93). -/
def State.dropFront (s : State) (h : HeadId) : State :=
  s.updHead h (fun hd => { hd with laneBuffer := dropEntry hd.laneBuffer })

/-- The set that holds one site alone. -/
def oneSite (i : SiteId) : BitVec 16 := siteSet (fun j => j == i)

/-- An entry that fails the entry check or the offset test is discarded with CHECK on its site and RESULT_LOSS (R94,
R95). -/
def State.discardEntry (s : State) (h : HeadId) (i : SiteId) : State :=
  (s.dropFront h).lose h .check (oneSite i) .resultLoss

/-- The free places of the Analysis Queue (R97). -/
def State.analysisRoom (s : State) : Nat := Config.analysisQueueSize - s.analysis.length

/-- An entry is admitted: it leaves the buffer, and its fails are handed to the gate one after another (R97). -/
def State.admitEntry (s : State) (h : HeadId) (i : SiteId) (logFlag : Bool) (fails : List Fail) : State :=
  fails.foldl (State.gate h i logFlag) (s.dropFront h)

/-- The intake of an entry of site `i` against its tracking entry: the entry check and the offset test, then the
decomposition, then the room test (R93 to R97). An entry that finds too little room waits. -/
def State.intakeEntry (s : State) (h : HeadId) (te : TrackEntry) (i : SiteId) (e : FailEntry) : State :=
  let hd := s.head h
  if !e.checkPasses hd.setup.checkMode || decide (te.vectors ≤ e.offset.toNat) then (s.discardEntry h i).settleIntake h
  else
    let fails := failsOf hd te e
    if fails.countP Fail.isMapped ≤ s.analysisRoom then (s.admitEntry h i te.logArmed fails).settleIntake h else s

/-- The intake of the next entry of head `h`'s lane buffer (R92, R93). -/
def State.intake (s : State) (h : HeadId) : State :=
  match (s.head h).laneBuffer, frontEntry (s.head h).tracking with
  | ⟨_, ⟨i, e :: _⟩ :: _⟩ :: _, some te =>
    if te.sites.getLsbD i.val then s.intakeEntry h te i e else (s.discardSection h).settleIntake h
  | _, _ => s

/-- FAIL_ENTRY_ADMIT (R92 to R99). -/
def execFailEntryAdmit (h : HeadId) (s : State) : Host.Outcome State Fault Refusal := .next (s.intake h)

end Sys2Proof.Machine
end

