-- ==== Sys2Proof/Machine/Lane.lean ====
section
/-! DEFINITION. The meanings of the events of a Head Lane outside the result path: what the lane sends, training, the
maintenance proxy, supply and lane signal (chapter 2, 4.5). -/

namespace Sys2Proof.Machine

/-- Whether the head's downstream transmitter is idle and its lane signal present: the arbiter may choose (R76). -/
def Head.laneFree (hd : Head) : Bool := hd.transmitting.isNone && hd.laneSignal

/-- HEAD_BURST_SEND (R75, R76): the head burst at the head of the Send Queue leaves it, and its transmission begins. -/
def execHeadBurstSend (h : HeadId) (s : State) : Host.Outcome State Fault Refusal :=
  match (s.head h).sendQueue with
  | [] => .next s
  | b :: rest =>
    if (s.head h).laneFree then
      .next (s.updHead h (fun hd => { hd with sendQueue := rest, transmitting := some b, laneOut := b.bytes }))
    else .next s

/-- MAINT_SEND (R38, R76): with the Send Queue empty, the waiting access is sent as one MAINT unit. -/
def execMaintSend (h : HeadId) (s : State) : Host.Outcome State Fault Refusal :=
  match (s.head h).slot with
  | none => .next s
  | some a =>
    if (s.head h).laneFree ∧ (s.head h).sendQueue = [] ∧ ¬ a.sent then
      .next (s.updHead h (fun hd => { hd with slot := some { a with sent := true }, laneOut := a.bytes }))
    else .next s

/-- Whether a head is in TRAINING with phase HUNT (R23). -/
def Head.hunting (hd : Head) : Bool := hd.state == .training && hd.phase == some .hunt

/-- PROBE_SEND (R22): with the Send Queue and the proxy slot empty, the waiting PROBE is sent, and the round-trip timer
starts at its end. -/
def execProbeSend (h : HeadId) (s : State) : Host.Outcome State Fault Refusal :=
  let hd := s.head h
  if hd.hunting ∧ hd.probeWaiting ∧ hd.laneFree ∧ hd.sendQueue = [] ∧ hd.slot = none then
    .next (s.updHead h (fun hd =>
      { hd with probeWaiting := false, roundTripTimer := some 0, laneOut := probeBytes }))
  else .next s

/-- A tracking queue when the end of transmission of the burst with the given tag is reported: the entry with that tag
in WAITING_SEND starts its deadline; without such an entry nothing changes (R77, R81). -/
def startDeadline (tag : Byte) (d : Deadline) : List TrackEntry → List TrackEntry
  | [] => []
  | e :: q =>
    if e.tag = tag ∧ e.deadline = .waitingSend then { e with deadline := d } :: q else e :: startDeadline tag d q

/-- BURST_TRANSMIT_END (R77, R81): the transmitter is idle again, and the end of a compare head burst starts its
entry's deadline, PAUSED if the lane is held; the end of a drive-only head burst is not reported. -/
def execBurstTransmitEnd (h : HeadId) (s : State) : Host.Outcome State Fault Refusal :=
  match (s.head h).transmitting with
  | none => .next s
  | some b =>
    .next (s.updHead h (fun hd =>
      { hd with
        transmitting := none
        tracking :=
          if b.compare then
            startDeadline b.tag (if hd.laneHeld then .paused hd.resultWindow else .running hd.resultWindow) hd.tracking
          else hd.tracking }))

/-! ### Training -/

/-- The first valid entry of the Latency Class Table whose maximum round trip is at least the measured one, in index
order (R23). -/
def chooseClass (table : Vector LatencyClass 8) (measured : Nat) : Option (Fin 8) :=
  (allFin 8).find? (fun i => table[i].valid && decide (measured ≤ table[i].maxRoundTrip))

/-- The profile read of training (R24). -/
def profileAccess (timer : Nat) : Access where
  origin := .profileRead
  write := false
  address := 0
  data := 0
  enables := 0xF
  sent := false
  timer := timer
  replyWanted := false

/-- The head enters phase PROFILE with a class of the table (R23, R24). The manual does not say whether a PROBE that still
waits is sent after an ECHO that came before it; here it is not (DESIGN CHOICE, log entry 12). -/
def Head.enterProfile (hd : Head) (measured : Nat) (i : Fin 8) (window : Nat) : Head :=
  { hd with
    roundTrip := some measured, classIndex := some i, resultWindow := window
    phase := some .profile, probeWaiting := false, roundTripTimer := none
    slot := some (profileAccess hd.setup.proxyDelay) }

/-- An ECHO measures the round trip of head `h` in phase HUNT: a class is chosen, or the head goes to OFFLINE with
OUT_OF_TABLE (R23). -/
def State.measure (s : State) (h : HeadId) (measured : Nat) : State :=
  match chooseClass s.latency measured with
  | some i => s.updHead h (fun hd => hd.enterProfile measured i s.latency[i].window)
  | none => (s.updHead h (fun hd => { hd with roundTrip := some measured })).failTraining h .outOfTable

/-- ECHO (R23), when `after` more lane quanta have passed: the quanta begun since the end of the probe are measured.
An ECHO at the moment of the timer's expiry is taken first and measures 16,383 (log entry 3); of one that comes later the
expiry is taken first, so that training ends with NO_ECHO and the ECHO is discarded. Before the probe has been sent the
manual states no value, and the measured round trip is a free value from 1 to 16,383 (log entry 12). In any other state the
ECHO is discarded. -/
def execEcho (h : HeadId) (after : Nat) (s : State) : Host.Outcome State Fault Refusal :=
  let s' := s.elapse after
  if (s'.head h).hunting ∧ (s'.head h).laneSignal then
    match (s'.head h).roundTripTimer with
    | some t =>
      if t ≤ Config.maxQuanta then .next (s'.measure h (min (t + 1) Config.maxQuanta))
      else .next (s'.failTraining h .noEcho)
    | none =>
      .next ({ s' with freeCount := s'.freeCount + 1 }.measure h
        (1 + Config.freeRoundTrip s'.freeCount % Config.maxQuanta))
  else .next s'

/-- ROUND_TRIP_TIMEOUT (R23): the rest of the 16,383 quanta, if any is left, passes without an echo. -/
def execRoundTripTimeout (h : HeadId) (s : State) : Host.Outcome State Fault Refusal :=
  match (s.head h).roundTripTimer with
  | none => .next s
  | some t =>
    if (s.head h).hunting then .next ((s.elapse (Config.maxQuanta - t)).failTraining h .noEcho) else .next s

/-- The profile is accepted: CONFIG, the present flags from the site count, and enabled_next cut to them (R24, R42). -/
def Head.acceptProfile (hd : Head) (p : Profile) : Head :=
  { hd.mapSites (fun i st =>
      { st with
        present := decide (i.val < p.siteCount)
        enabledNext := st.enabledNext && decide (i.val < p.siteCount) }) with
    profile := some p, state := .config, phase := none, slot := none }

/-- The profile read of head `h` is answered (R24). -/
def State.profileAnswer (s : State) (h : HeadId) (body : List Byte) : State :=
  match (if answerOk body then Profile.read (answerData body) else none) with
  | some p => (s.updHead h (fun hd => hd.acceptProfile p)).raise h .trained
  | none => s.failTraining h .badProfile

/-! ### The maintenance proxy -/

/-- MAINT_ANSWER (R38): ends an access that has been sent; with the slot empty or its access still waiting, the answer
is discarded. -/
def execMaintAnswer (h : HeadId) (body : List Byte) (s : State) : Host.Outcome State Fault Refusal :=
  match (s.head h).slot with
  | none => .next s
  | some a =>
    if a.sent ∧ (s.head h).laneSignal then
      if a.origin = .profileRead then .next (s.profileAnswer h body)
      else
        .next (s.endAccess h (if answerOk body then .done else .headRefused) (.answer (answerData body)))
    else .next s

/-- PROXY_TIMEOUT (R39): what is left of the proxy timer passes, and the access ends with TIMEOUT, or the profile read
with PROFILE_TIMEOUT (R24). -/
def execProxyTimeout (h : HeadId) (s : State) : Host.Outcome State Fault Refusal :=
  match (s.head h).slot with
  | none => .next s
  | some a =>
    if a.origin = .profileRead then .next ((s.elapse a.timer).failTraining h .profileTimeout)
    else .next ((s.elapse a.timer).endAccess h .timeout .empty)

/-! ### Supply and lane signal -/

/-- SUPPLY_GOOD_FALL (R29): the line falls; while the supply monitor is active, a fence timer starts. -/
def execSupplyGoodFall (h : HeadId) (s : State) : Host.Outcome State Fault Refusal :=
  if (s.head h).supplyGood then
    .next (s.updHead h (fun hd =>
      { hd with
        supplyGood := false
        fenceTimer := if hd.state.monitored then some hd.setup.fenceDelay else hd.fenceTimer }))
  else .next s

/-- SUPPLY_GOOD_RISE (R29): the line returns high, and a running fence timer is cancelled. -/
def execSupplyGoodRise (h : HeadId) (s : State) : Host.Outcome State Fault Refusal :=
  .next (s.updHead h (fun hd => { hd with supplyGood := true, fenceTimer := none }))

/-- The fence of head `h` (R30). -/
def State.fence (s : State) (h : HeadId) : State :=
  ((s.close h (some .fence)).updHead h
    (fun hd => { hd with state := .fenced, reason := .supply, phase := none })).raise h .fenced

/-- FENCE_TIMER_EXPIRY (R30): what is left of the running fence timer passes, and the head is fenced. -/
def execFenceTimerExpiry (h : HeadId) (s : State) : Host.Outcome State Fault Refusal :=
  match (s.head h).fenceTimer with
  | none => .next s
  | some t => if (s.head h).state.monitored then .next ((s.elapse t).fence h) else .next s

/-- LANE_SIGNAL_LOSS (R32): lane loss where the lane-signal monitor acts; in OFFLINE and FENCED only the presence
changes, and a unit whose reception was cut off is not completed (log entry 18). -/
def execLaneSignalLoss (h : HeadId) (s : State) : Host.Outcome State Fault Refusal :=
  if (s.head h).laneSignal then
    let lost := s.updHead h (fun hd => { hd with laneSignal := false })
    if (s.head h).state.monitored then .next (lost.laneLoss h)
    else .next ((lost.updHead h (fun hd => { hd with reception := none })).settleLane h)
  else .next s

/-- LANE_SIGNAL_RETURN (R32): only the presence changes. -/
def execLaneSignalReturn (h : HeadId) (s : State) : Host.Outcome State Fault Refusal :=
  .next (s.updHead h (fun hd => { hd with laneSignal := true }))

/-- UNKNOWN_UNIT_DISCARD (R163): an upstream unit of an unknown type has no effect. A unit whose type byte is known
ends as the command that `commandOfUnit` gives for it, and is no unit of this command (`Instr.wellFormed`). -/
def execUnknownUnitDiscard (_h : HeadId) (_kind : Byte) (_body : List Byte) (s : State) :
    Host.Outcome State Fault Refusal :=
  .next s

end Sys2Proof.Machine
end

