-- ==== Sys2Proof/Machine/Bdu.lean ====
section
/-! DEFINITION. Burst distribution: marker matching and the handling of a burst for one head (chapter 4). -/

namespace Sys2Proof.Machine

/-- Whether a Marker Table entry matches a marker (R65). -/
def Marker.matchesMarker (m : Marker) (v : Byte) : Bool :=
  m.enabled && (v &&& m.matchMask) == (m.matchValue &&& m.matchMask)

/-- The matched entry of a burst: the first enabled entry that its marker matches, in index order (R62, R65). -/
def matchedMarker (ms : Vector Marker 8) (v : Byte) : Option Marker := ms.toList.find? (fun m => m.matchesMarker v)

/-- The action that a burst's matched entry has on head `h`: none outside the entry's scope (R65). -/
def actionOn (m : Option Marker) (h : HeadId) : Option MarkerAction :=
  m.bind (fun m => if m.scope.getLsbD h.val then some m.action else none)

/-- Step 1 of R63: CAPTURE_OFF, CAPTURE_ON and LOG_ARM act at once (R66, R68); END_SEGMENT is held over. -/
def Head.markerFlags (hd : Head) : Option MarkerAction → Head
  | some .captureOff => { hd with capture := false }
  | some .captureOn => { hd with capture := true }
  | some .logArm => { hd with logArmed := true }
  | _ => hd

/-- Whether a burst is classed as a compare burst for the head, after step 1 (R70). -/
def Head.classesCompare (hd : Head) (b : Burst) : Bool := b.compare && hd.capture && hd.siteEnable != 0

/-- The tracking entry made for a compare burst (R72), its base coordinates reduced to the head's widths (R73). -/
def Head.newEntry (hd : Head) (b : Burst) : TrackEntry where
  tag := hd.tagCounter
  baseRow := b.baseRow.toNat % 2 ^ hd.geometry.rb
  baseCol := b.baseCol.toNat % 2 ^ hd.geometry.cb
  vectors := b.vectors
  order := b.order
  startIndex := hd.vectorIndex
  sites := hd.siteEnable
  logArmed := hd.logArmed
  deadline := .waitingSend

/-- The head burst made of a burst, with a tag when it is a compare burst, and drive-only with tag 0 otherwise (R72,
R73). -/
def Head.newHeadBurst (hd : Head) (b : Burst) (compare : Bool) : HeadBurst where
  tag := if compare then hd.tagCounter else 0
  compare := compare
  order := b.order
  length := b.length
  baseRow := b.baseRow.toNat % 2 ^ hd.geometry.rb
  baseCol := b.baseCol.toNat % 2 ^ hd.geometry.cb
  patternId := b.patternId
  sites := hd.siteEnable

/-- The head burst is placed at the tail of the Send Queue and the vector index advances by the burst's vectors (R74);
a compare burst has its tracking entry made and advances the tag counter (R72). -/
def Head.place (hd : Head) (b : Burst) (compare : Bool) : Head :=
  { hd with
    sendQueue := hd.sendQueue ++ [hd.newHeadBurst b compare]
    vectorIndex := hd.vectorIndex + BitVec.ofNat 32 b.vectors
    tracking := if compare then hd.tracking ++ [hd.newEntry b] else hd.tracking
    tagCounter := if compare then hd.tagCounter + 1 else hd.tagCounter }

/-- The burst is skipped for a head outside TESTING: only the skipped count changes (R61). -/
def Head.skip (hd : Head) : Head := { hd with skipped := satSucc Config.countTop hd.skipped }

/-- Steps 2 to 5 of R63, on head `h` after step 1 (R69 to R74): the burst is lost to a full Send Queue (R71), made
drive-only by a full tracking queue (R72), or placed as it was classed. -/
def State.placeBurst (s : State) (h : HeadId) (b : Burst) : State :=
  let hd := s.head h
  if Config.sendQueueSize ≤ hd.sendQueue.length then
    if hd.classesCompare b then s.lose h .sendOverflow hd.siteEnable .resultLoss else s
  else if hd.classesCompare b then
    if hd.tracking.length < Config.trackingQueueSize then s.updHead h (fun hd => hd.place b true)
    else (s.lose h .trackOverflow hd.siteEnable .resultLoss).updHead h (fun hd => hd.place b false)
  else s.updHead h (fun hd => hd.place b false)

/-- The handling of a burst, with its matched marker entry, for head `h` (R61, R63). -/
def State.handleBurst (b : Burst) (m : Option Marker) (s : State) (h : HeadId) : State :=
  if (s.head h).state = .testing then
    let placed := (s.updHead h (fun hd => hd.markerFlags (actionOn m h))).placeBurst h b
    if actionOn m h = some .endSegment then placed.closeSegment h else placed
  else s.updHead h Head.skip

/-- A burst is distributed to the heads in its head mask (R61, R62); its handlings are not ordered against each other
(log entry 11). -/
def State.distribute (s : State) (b : Burst) : State :=
  s.inAnyOrder b.heads (State.handleBurst b (matchedMarker s.markers b.marker))

/-- Gap handling on one head: GAP on its enabled sites that are neither stopped nor final, and RESULT_LOSS (R6). -/
def State.markGap (s : State) (h : HeadId) : State :=
  s.lose h .gap (s.head h).siteEnable .resultLoss

/-- The heads whose state is TESTING (R6). -/
def State.testingHeads (s : State) : List HeadId := (allFin 4).filter (fun h => (s.head h).state == .testing)

/-- Gap handling: every head in TESTING is marked (R6), in an order the manual leaves open (log entry 11). -/
def State.markGaps (s : State) : State := s.inAnyOrder s.testingHeads State.markGap

/-- Whether a burst's sequence number reveals a gap (R5). -/
def State.revealsGap (s : State) (b : Burst) : Bool :=
  match s.expected with
  | none => false
  | some n => n != b.sequence

/-- The burst sequence check, and then the distribution of the burst (R5). -/
def State.takeBurst (s : State) (b : Burst) : State :=
  let marked := if s.revealsGap b then s.markGaps else s
  { marked with expected := some (b.sequence + 1) }.distribute b

end Sys2Proof.Machine
end

