-- ==== Sys2Proof/Machine/Link.lean ====
section
/-! DEFINITION. The meanings of the commands of the Pattern Link: power-on, synchronisation and its loss, downstream
frames, and the upstream transmitter (chapter 1). -/

namespace Sys2Proof.Machine

/-- The state right after power-on, but for the commands that wait, the free values used, and the levels of the inputs
(R18, R19; log entry 7). -/
def State.poweredOn (s : State) : State :=
  { State.reset with
    heads := tabulate (fun h =>
      { Head.reset with supplyGood := (s.head h).supplyGood, laneSignal := (s.head h).laneSignal })
    freeCount := s.freeCount
    pending := s.pending }

/-- Pattern Link loss (R4); a mainframe access in a proxy slot runs on without a reply (R40). -/
def State.linkLoss (s : State) : State :=
  { s with
    link := .outOfSync, failureRun := 0, expected := none
    requests := [], upstream := [], reservations := []
    heads := tabulate (fun h =>
      { s.head h with slot := (s.head h).slot.map (fun a => { a with replyWanted := false }) }) }

/-- A request joins the tail of the Request Queue, or is dropped and counted when the queue holds 16 (R7). -/
def State.takeRequest (s : State) (r : Request) : State :=
  if s.requests.length < Config.requestQueueSize then { s with requests := s.requests ++ [r] }
  else { s with requestDrops := satSucc Config.countTop s.requestDrops }

/-- A frame that passed its check but is of no use is discarded and counted (R1). -/
def State.discardFrame (s : State) : State := { s with crcDiscards := satSucc Config.countTop s.crcDiscards }

/-- The failure run is set to 0 by a frame whose check passes (R3). -/
def State.checkPassed (s : State) : State := { s with failureRun := 0 }

/-- The LIU acts on a frame that passed its check, according to its kind (R1). -/
def State.receive (s : State) (f : LinkFrame) : State :=
  if f.isBurst then s.checkPassed.takeBurst (Burst.read f.body)
  else if f.isRequest then s.checkPassed.takeRequest (Request.read f.body)
  else s.checkPassed.discardFrame

/-- Whether the LIU acts on a frame that it has received whole: it is in IN_SYNC, the length field lets it place the
boundary, and the check passes (R1, R2, R4). -/
def State.hears (s : State) (f : LinkFrame) : Bool := s.link == .inSync && f.lengthFits && f.checkPasses

/-- The synchronised link begins, with the frame that ended the search (R3). -/
def State.acquire (s : State) (f : LinkFrame) : State := { s with link := .inSync, failureRun := 0 }.receive f

/-- POWER_ON (R18, R19). -/
def execPowerOn (s : State) : Host.Outcome State Fault Refusal := .next s.poweredOn

/-- SYNC_ACQUISITION (R3): in OUT_OF_SYNC, the pair that ends with the stream brings the LIU to IN_SYNC, and its second
frame is acted on. Where several pairs end together, a free value says which is taken (log entry 13). -/
def execSyncAcquisition (stream : List LineSymbol) (s : State) : Host.Outcome State Fault Refusal :=
  if s.link = .outOfSync then
    match acquiredFrames stream with
    | [] => .next s
    | [f] => .next (s.acquire f)
    | f :: fs =>
      .next ({ s with freeCount := s.freeCount + 1 }.acquire
        ((f :: fs).getD (Config.freeCandidate s.freeCount % (f :: fs).length) f))
  else .next s

/-- Whether a cause of Pattern Link loss has arisen: the signal is lost, or a length above 48 has been read (R4). -/
def lossArises : LinkLossCause → Bool
  | .signalLost => true
  | .overlongLength n => Config.maxBody < n.toNat

/-- PATTERN_LINK_LOSS (R4). -/
def execPatternLinkLoss (cause : LinkLossCause) (s : State) : Host.Outcome State Fault Refusal :=
  if s.link = .inSync ∧ lossArises cause then .next s.linkLoss else .next s

/-- BURST (R5, R6, R61 to R74). -/
def execBurst (f : LinkFrame) (s : State) : Host.Outcome State Fault Refusal :=
  if s.hears f ∧ f.isBurst then .next (s.checkPassed.takeBurst (Burst.read f.body)) else .next s

/-- REQUEST_FRAME (R7). -/
def execRequestFrame (f : LinkFrame) (s : State) : Host.Outcome State Fault Refusal :=
  if s.hears f ∧ f.isRequest then .next (s.checkPassed.takeRequest (Request.read f.body)) else .next s

/-- MALFORMED_FRAME (R1). -/
def execMalformedFrame (f : LinkFrame) (s : State) : Host.Outcome State Fault Refusal :=
  if s.hears f ∧ ¬ f.isBurst ∧ ¬ f.isRequest then .next s.checkPassed.discardFrame else .next s

/-- FRAME_CHECK_FAILURE (R2): the frame is discarded and counted, and the failure run goes up; the eighth failure in a
row ends IN_SYNC after it has been counted (R4). -/
def execFrameCheckFailure (f : LinkFrame) (s : State) : Host.Outcome State Fault Refusal :=
  if s.link = .inSync ∧ f.lengthFits ∧ ¬ f.checkPasses then
    let counted := { s.discardFrame with failureRun := s.failureRun + 1 }
    if Config.failureRunLimit ≤ s.failureRun + 1 then .next counted.linkLoss else .next counted
  else .next s

/-- UPSTREAM_SEND (R14): in IN_SYNC, the frame at the head of the Upstream Queue leaves it and is sent whole. -/
def execUpstreamSend (s : State) : Host.Outcome State Fault Refusal :=
  match s.upstream with
  | [] => .next s
  | f :: rest => if s.link = .inSync then .next { s with upstream := rest, linkOut := f.bytes } else .next s

end Sys2Proof.Machine
end

