-- ==== Sys2Proof/Machine/Segments.lean ====
section
/-! DEFINITION. The meanings of the requests on segments, their readback, the Fail Log and the head events (chapters 3,
8 and 9), and of MAINT_ACCESS (R37). -/

namespace Sys2Proof.Machine

/-- The set of sites that SET_SITES names (R43, R161). -/
def Request.sites (r : Request) : BitVec 16 := r.arg 1 ++ r.arg 2

/-- The sites of a head that are present (R41). -/
def Head.presentSet (hd : Head) : BitVec 16 := siteSet (fun i => (hd.site i).present)

/-- The enabled_next flags are written from a set (R43). -/
def Head.stage (hd : Head) (set : BitVec 16) : Head :=
  hd.mapSites (fun i st => { st with enabledNext := set.getLsbD i.val })

/-- The owning block's part of SET_SITES: the sites not present are dropped from the set (R43). -/
def State.setSites (s : State) (r : Request) : State :=
  let kept := r.sites &&& (s.head r.head).presentSet
  (s.updHead r.head (fun hd => hd.stage kept)).reply (doneOr (kept != r.sites)) (.siteSet kept)

/-- SET_SITES (R43). -/
def execSetSites (s : State) : Host.Outcome State Fault Refusal :=
  .next (s.execute .setSites (fun r s => s.setSites r))

/-- A Site Record at SEGMENT_OPEN (R46). -/
def Site.openSegment (st : Site) : Site :=
  let on := st.enabledNext && st.present
  { st with
    enabled := on, stopped := false, stopReason := .none, rawFails := 0, unmapped := false, causes := 0
    verdict := if on then .pending else .masked }

/-- The head at SEGMENT_OPEN, but for its generation: blocks 0 to 2^BB - 1 of every enabled site COLLECTING, every
other block IDLE, all empty (R46). -/
def Head.openSegment (hd : Head) : Head :=
  let opened := hd.mapSites (fun _ st => st.openSegment)
  { opened.mapBlocks (fun i b _ =>
      if (opened.site i).enabled ∧ b.val < 2 ^ hd.geometry.bb then Block.opened else Block.reset) with
    tagCounter := 0
    capture := true, logArmed := false, vectorIndex := 0, skipped := 0
    log := [], overrun := false
    state := .testing }

/-- SEGMENT_OPEN (R46). -/
def execSegmentOpen (s : State) : Host.Outcome State Fault Refusal :=
  .next (s.execute .segmentOpen (fun r s =>
    ((s.bumpGeneration r.head).updHead r.head Head.openSegment).reply .done .empty))

/-- SEGMENT_CLOSE (R47): the drain condition is tested before the reply. -/
def execSegmentClose (s : State) : Host.Outcome State Fault Refusal :=
  .next (s.execute .segmentClose (fun r s => (s.closeSegment r.head).reply .done .empty))

/-- The owning block's part of STOP_SITE: BAD_ARGUMENT for a site that is not enabled; a site already stopped is left
as it is (R55). -/
def State.stopRequest (s : State) (r : Request) : State :=
  if ((s.head r.head).site (r.siteAt 1)).enabled then
    (s.stopSite r.head (r.siteAt 1) .manual).reply .done .empty
  else s.reply .badArgument .empty

/-- STOP_SITE (R55). -/
def execStopSite (s : State) : Host.Outcome State Fault Refusal :=
  .next (s.execute .stopSite (fun r s => s.stopRequest r))

/-- What VERDICT_READ reports (R60). -/
def Head.verdictReport (hd : Head) : ReplyBody :=
  .verdicts ((allFin 16).map (fun i => (hd.site i).verdict)) ((allFin 16).map (fun i => (hd.site i).stopReason))

/-- VERDICT_READ (R60). -/
def execVerdictRead (s : State) : Host.Outcome State Fault Refusal :=
  .next (s.execute .verdictRead (fun r s => s.reply .done (s.head r.head).verdictReport))

/-- What REPAIR_READ reports of one block (R145). -/
def Block.report (b : Block) : BlockReport := ⟨b.state, b.rows, b.cols, b.fails.length, b.coveredHits⟩

/-- The blocks that REPAIR_READ reports: 0 to 2^BB - 1 of a loaded geometry, none otherwise (R144). -/
def Geometry.reported (g : Geometry) : List BlockId :=
  if g.loaded then (allFin 16).filter (fun b => b.val < 2 ^ g.bb) else []

/-- What REPAIR_READ reports of a site (R144). -/
def Head.repairReport (hd : Head) (i : SiteId) : RepairReport where
  verdict := (hd.site i).verdict
  stopReason := (hd.site i).stopReason
  enabled := (hd.site i).enabled
  causes := (hd.site i).causes
  unmapped := (hd.site i).unmapped
  rawFails := (hd.site i).rawFails
  blocks := hd.geometry.reported.map (fun b => (hd.block i b).report)

/-- REPAIR_READ (R144, R145). -/
def execRepairRead (s : State) : Host.Outcome State Fault Refusal :=
  .next (s.execute .repairRead (fun r s => s.reply .done (.repair ((s.head r.head).repairReport (r.siteAt 1)))))

/-- The owning block's part of LOG_READ (R151). -/
def State.readLog (s : State) (r : Request) : State :=
  let hd := s.head r.head
  let count := clampTo 1 32 (r.arg 1).toNat
  let left := hd.log.drop count
  (s.updHead r.head (fun hd => { hd with log := left, overrun := hd.overrun && hd.log.isEmpty })).reply
    (doneOr (count != (r.arg 1).toNat)) (.log (hd.log.take count) hd.overrun left.length)

/-- LOG_READ (R151). -/
def execLogRead (s : State) : Host.Outcome State Fault Refusal :=
  .next (s.execute .logRead (fun r s => s.readLog r))

/-- EVENT_CLEAR (R155). -/
def execEventClear (s : State) : Host.Outcome State Fault Refusal :=
  .next (s.execute .eventClear (fun r s =>
    let set := (s.head r.head).events &&& ~~~ r.arg 1
    (s.updHead r.head (fun hd => { hd with events := set })).reply .done (.events set)))

/-- The owning block's part of EVENT_MASK: one notice when a set event is newly masked in (R156). -/
def State.writeMask (s : State) (r : Request) : State :=
  let hd := s.head r.head
  let s' := s.updHead r.head (fun hd => { hd with mask := r.arg 1 })
  (if hd.events &&& r.arg 1 &&& ~~~ hd.mask != 0 then s'.offerNotice r.head else s').reply .done (.events (r.arg 1))

/-- EVENT_MASK (R156). -/
def execEventMask (s : State) : Host.Outcome State Fault Refusal :=
  .next (s.execute .eventMask (fun r s => s.writeMask r))

/-- The access that MAINT_ACCESS's arguments give, waiting, with the head's current proxy timeout and a reply wanted
(R37, R161, R162). -/
def Request.access (r : Request) (timer : Nat) : Access where
  origin := .mainframe r.id r.code
  write := r.flag 1
  address := BitVec.ofNat 24 (r.num 2 3)
  data := BitVec.ofNat 32 (r.num 5 4)
  enables := (r.arg 9).extractLsb' 0 4
  sent := false
  timer := timer
  replyWanted := true

/-- The intrusive flag of a MAINT_ACCESS (R37). -/
def Request.intrusive (r : Request) : Bool := r.flag 10

/-- The slot that REX assigned to the reply becomes the head's reservation, and REX goes on (R8, R12). -/
def State.reserve (s : State) (h : HeadId) : State :=
  { s with
    reservations := if h ∈ s.reservations then s.reservations else s.reservations ++ [h]
    executing := none }

/-- The HLC's part of MAINT_ACCESS (R37). -/
def State.startAccess (s : State) (r : Request) : State :=
  let hd := s.head r.head
  if hd.slot.isSome then s.reply .busy .empty
  else if hd.state.collecting ∧ ¬ r.intrusive then s.reply .retry .empty
  else (s.updHead r.head (fun hd => { hd with slot := some (r.access hd.setup.proxyDelay) })).reserve r.head

/-- MAINT_ACCESS (R37). -/
def execMaintAccess (s : State) : Host.Outcome State Fault Refusal :=
  .next (s.execute .maintAccess (fun r s => s.startAccess r))

end Sys2Proof.Machine
end

