-- ==== Sys2Proof/Machine/Tables.lean ====
section
/-! DEFINITION. The meanings of TABLE_WRITE and TABLE_READ, one for each table (R21, R44, R64, R100 to R103, R133). -/

namespace Sys2Proof.Machine

/-- Whether the six numbers of a geometry pass the FAU's validity tests (R101). -/
def geometryValid (rb cb bb ioc : Nat) : Bool :=
  decide (1 ≤ rb ∧ rb ≤ 16 ∧ 1 ≤ cb ∧ cb ≤ 12 ∧ bb ≤ 4 ∧ bb < rb ∧ 1 ≤ ioc ∧ ioc ≤ 16)

/-- The geometry that TABLE_WRITE GEOMETRY's arguments give, absent when it fails a validity test; SR and SC are taken
as 4 when greater (R101). -/
def Request.geometry (r : Request) : Option Geometry :=
  let n := fun i => (r.arg i).toNat
  if geometryValid (n 2) (n 3) (n 4) (n 5) then
    some ⟨true, n 2, n 3, n 4, n 5, min (n 6) 4, min (n 7) 4⟩
  else none

/-- The geometry is written, and the 256 Block Records of the head become IDLE and empty (R101, R102). -/
def Head.writeGeometry (hd : Head) (g : Geometry) : Head := { hd with geometry := g, blocks := Head.idleBlocks }

/-- The owning block's part of TABLE_WRITE GEOMETRY (R101). -/
def State.writeGeometry (s : State) (r : Request) : State :=
  match r.geometry with
  | none => s.reply .badArgument .empty
  | some g =>
    (s.updHead r.head (fun hd => hd.writeGeometry g)).reply
      (doneOr (g.sr != (r.arg 6).toNat || g.sc != (r.arg 7).toNat)) (.geometry g)

/-- TABLE_WRITE GEOMETRY (R101, R102). -/
def execTableWriteGeometry (s : State) : Host.Outcome State Fault Refusal :=
  .next (s.execute .writeGeometry (fun r s => s.writeGeometry r))

/-- The window that TABLE_WRITE WINDOW's arguments give, with the bits at or above bit 28 cleared (R103). -/
def Request.window (r : Request) : Window where
  enabled := r.flag 3
  matchBase := BitVec.ofNat 28 (r.num 4 4)
  matchMask := BitVec.ofNat 28 (r.num 8 4)
  substValue := BitVec.ofNat 28 (r.num 12 4)
  substMask := BitVec.ofNat 28 (r.num 16 4)

/-- Whether one of the four values of a window has a bit at or above bit 28 (R103). -/
def Request.windowCut (r : Request) : Bool :=
  2 ^ 28 ≤ r.num 4 4 || 2 ^ 28 ≤ r.num 8 4 || 2 ^ 28 ≤ r.num 12 4 || 2 ^ 28 ≤ r.num 16 4

/-- TABLE_WRITE WINDOW (R103). -/
def execTableWriteWindow (s : State) : Host.Outcome State Fault Refusal :=
  .next (s.execute .writeWindow (fun r s =>
    (s.updHead r.head (fun hd => { hd with windows := setAt hd.windows (r.entryAt 2) r.window })).reply
      (doneOr r.windowCut) (.window r.window)))

/-- The Marker Table entry that TABLE_WRITE MARKER's arguments give, absent for a code that is no action (R64). -/
def Request.marker (r : Request) : Option Marker :=
  (MarkerAction.ofCode (r.arg 6)).map
    (fun a => ⟨r.flag 2, r.arg 3, r.arg 4, (r.arg 5).extractLsb' 0 4, a⟩)

/-- The owning block's part of TABLE_WRITE MARKER (R64). -/
def State.writeMarker (s : State) (r : Request) : State :=
  match r.marker with
  | none => s.reply .badArgument .empty
  | some m => { s with markers := setAt s.markers (r.entryAt 1) m }.reply .done (.marker m)

/-- TABLE_WRITE MARKER (R64). -/
def execTableWriteMarker (s : State) : Host.Outcome State Fault Refusal :=
  .next (s.execute .writeMarker (fun r s => s.writeMarker r))

/-- The Latency Class entry that TABLE_WRITE LATENCY_CLASS's arguments give, its values taken to 1 to 16,383 (R21). -/
def Request.latencyClass (r : Request) : LatencyClass where
  valid := r.flag 2
  maxRoundTrip := clampTo 1 Config.maxQuanta (r.num 3 2)
  window := clampTo 1 Config.maxQuanta (r.num 5 2)

/-- TABLE_WRITE LATENCY_CLASS (R21). -/
def execTableWriteLatencyClass (s : State) : Host.Outcome State Fault Refusal :=
  .next (s.execute .writeLatencyClass (fun r s =>
    { s with latency := setAt s.latency (r.entryAt 1) r.latencyClass }.reply
      (doneOr (r.latencyClass.maxRoundTrip != r.num 3 2 || r.latencyClass.window != r.num 5 2))
      (.latencyClass r.latencyClass)))

/-- TABLE_WRITE SITE_LIMITS (R44). -/
def execTableWriteSiteLimits (s : State) : Host.Outcome State Fault Refusal :=
  .next (s.execute .writeSiteLimits (fun r s =>
    (s.updHead r.head (fun hd =>
      hd.updSite (r.siteAt 2) (fun st => { st with failLimit := r.num 3 2, logEnable := r.flag 5 }))).reply
      .done (.siteLimits (r.num 3 2) (r.flag 5))))

/-- TABLE_READ of a Geometry Record (R100). -/
def execTableReadGeometry (s : State) : Host.Outcome State Fault Refusal :=
  .next (s.execute .readGeometry (fun r s => s.reply .done (.geometry (s.head r.head).geometry)))

/-- TABLE_READ of a scramble window (R103). -/
def execTableReadWindow (s : State) : Host.Outcome State Fault Refusal :=
  .next (s.execute .readWindow (fun r s => s.reply .done (.window (s.head r.head).windows[r.entryAt 2])))

/-- TABLE_READ of a Marker Table entry (R64). -/
def execTableReadMarker (s : State) : Host.Outcome State Fault Refusal :=
  .next (s.execute .readMarker (fun r s => s.reply .done (.marker s.markers[r.entryAt 1])))

/-- TABLE_READ of a Latency Class entry (R21). -/
def execTableReadLatencyClass (s : State) : Host.Outcome State Fault Refusal :=
  .next (s.execute .readLatencyClass (fun r s => s.reply .done (.latencyClass s.latency[r.entryAt 1])))

/-- TABLE_READ of a SITE_LIMITS entry (R44). -/
def execTableReadSiteLimits (s : State) : Host.Outcome State Fault Refusal :=
  .next (s.execute .readSiteLimits (fun r s =>
    let st := (s.head r.head).site (r.siteAt 2)
    s.reply .done (.siteLimits st.failLimit st.logEnable)))

/-- TABLE_READ of a Block Record (R133). -/
def execTableReadBlockRecord (s : State) : Host.Outcome State Fault Refusal :=
  .next (s.execute .readBlock (fun r s => s.reply .done (.block ((s.head r.head).block (r.siteAt 2) (r.siteAt 3)))))

end Sys2Proof.Machine
end

