-- ==== Sys2Proof/Machine/Dispatch.lean ====
section
/-! DEFINITION. The dispatch of the commands: one arm for each, a direct call of its meaning. -/

namespace Sys2Proof.Machine

/-- The effect of a command on everything but the queue of waiting commands. -/
def exec (i : Instr) (s : State) : Host.Outcome State Fault Refusal :=
  match i with
  | .powerOn => Sys2Proof.Machine.execPowerOn s
  | .syncAcquisition stream => Sys2Proof.Machine.execSyncAcquisition stream s
  | .patternLinkLoss cause => Sys2Proof.Machine.execPatternLinkLoss cause s
  | .burst f => Sys2Proof.Machine.execBurst f s
  | .requestFrame f => Sys2Proof.Machine.execRequestFrame f s
  | .malformedFrame f => Sys2Proof.Machine.execMalformedFrame f s
  | .frameCheckFailure f => Sys2Proof.Machine.execFrameCheckFailure f s
  | .upstreamSend => Sys2Proof.Machine.execUpstreamSend s
  | .unknownRequestCode => Sys2Proof.Machine.execUnknownRequestCode s
  | .deviceStatus => Sys2Proof.Machine.execDeviceStatus s
  | .deviceReset => Sys2Proof.Machine.execDeviceReset s
  | .headStart => Sys2Proof.Machine.execHeadStart s
  | .headReset => Sys2Proof.Machine.execHeadReset s
  | .headSetup => Sys2Proof.Machine.execHeadSetup s
  | .headCommit => Sys2Proof.Machine.execHeadCommit s
  | .headRelease => Sys2Proof.Machine.execHeadRelease s
  | .headStatus => Sys2Proof.Machine.execHeadStatus s
  | .tableWriteGeometry => Sys2Proof.Machine.execTableWriteGeometry s
  | .tableWriteWindow => Sys2Proof.Machine.execTableWriteWindow s
  | .tableWriteMarker => Sys2Proof.Machine.execTableWriteMarker s
  | .tableWriteLatencyClass => Sys2Proof.Machine.execTableWriteLatencyClass s
  | .tableWriteSiteLimits => Sys2Proof.Machine.execTableWriteSiteLimits s
  | .tableReadGeometry => Sys2Proof.Machine.execTableReadGeometry s
  | .tableReadWindow => Sys2Proof.Machine.execTableReadWindow s
  | .tableReadMarker => Sys2Proof.Machine.execTableReadMarker s
  | .tableReadLatencyClass => Sys2Proof.Machine.execTableReadLatencyClass s
  | .tableReadSiteLimits => Sys2Proof.Machine.execTableReadSiteLimits s
  | .tableReadBlockRecord => Sys2Proof.Machine.execTableReadBlockRecord s
  | .setSites => Sys2Proof.Machine.execSetSites s
  | .segmentOpen => Sys2Proof.Machine.execSegmentOpen s
  | .segmentClose => Sys2Proof.Machine.execSegmentClose s
  | .stopSite => Sys2Proof.Machine.execStopSite s
  | .verdictRead => Sys2Proof.Machine.execVerdictRead s
  | .repairRead => Sys2Proof.Machine.execRepairRead s
  | .logRead => Sys2Proof.Machine.execLogRead s
  | .eventClear => Sys2Proof.Machine.execEventClear s
  | .eventMask => Sys2Proof.Machine.execEventMask s
  | .maintAccess => Sys2Proof.Machine.execMaintAccess s
  | .headBurstSend h => Sys2Proof.Machine.execHeadBurstSend h s
  | .maintSend h => Sys2Proof.Machine.execMaintSend h s
  | .probeSend h => Sys2Proof.Machine.execProbeSend h s
  | .burstTransmitEnd h => Sys2Proof.Machine.execBurstTransmitEnd h s
  | .echo h after => Sys2Proof.Machine.execEcho h after s
  | .roundTripTimeout h => Sys2Proof.Machine.execRoundTripTimeout h s
  | .maintAnswer h body => Sys2Proof.Machine.execMaintAnswer h body s
  | .proxyTimeout h => Sys2Proof.Machine.execProxyTimeout h s
  | .supplyGoodFall h => Sys2Proof.Machine.execSupplyGoodFall h s
  | .supplyGoodRise h => Sys2Proof.Machine.execSupplyGoodRise h s
  | .fenceTimerExpiry h => Sys2Proof.Machine.execFenceTimerExpiry h s
  | .laneSignalLoss h => Sys2Proof.Machine.execLaneSignalLoss h s
  | .laneSignalReturn h => Sys2Proof.Machine.execLaneSignalReturn h s
  | .unknownUnitDiscard h kind body => Sys2Proof.Machine.execUnknownUnitDiscard h kind body s
  | .resultRecord h unit => Sys2Proof.Machine.execResultRecord h unit s
  | .trackingExpiry h => Sys2Proof.Machine.execTrackingExpiry h s
  | .failEntryAdmit h => Sys2Proof.Machine.execFailEntryAdmit h s
  | .itemTake => Sys2Proof.Machine.execItemTake s
  | .itemCompletion => Sys2Proof.Machine.execItemCompletion s
  | .solveJobTake => Sys2Proof.Machine.execSolveJobTake s
  | .solveJobCompletion => Sys2Proof.Machine.execSolveJobCompletion s
  | .failEntryArrival h => Sys2Proof.Machine.execFailEntryArrival h s

end Sys2Proof.Machine
end

