-- ==== Sys2Proof/WellFormed.lean ====
section
/-! DEFINITION. Which operands a command can come with: the event that the command stands for fixes the class of the
frame, of the unit or of the stream it brings (95_what_each_step_holds.md). -/

namespace Sys2Proof

/-- A frame that the LIU receives whole and whose check passes (R1, R2, R3). -/
def LinkFrame.received (f : LinkFrame) : Bool := f.lengthFits && f.checkPasses

/-- Whether a command's operands are those of the event it stands for. Commands without operands, and those whose
operand the manual leaves without a limit, are always well-formed. -/
def Instr.wellFormed : Instr → Bool
  | .syncAcquisition stream => !(acquiredFrames stream).isEmpty
  | .patternLinkLoss .signalLost => true
  | .patternLinkLoss (.overlongLength n) => decide (Config.maxBody < n.toNat)
  | .burst f => f.received && f.isBurst
  | .requestFrame f => f.received && f.isRequest
  | .malformedFrame f => f.received && !f.isBurst && !f.isRequest
  | .frameCheckFailure f => f.lengthFits && !f.checkPasses
  | .echo _ after => decide (after < Config.maxQuanta)
  | .unknownUnitDiscard _ kind _ => !Machine.knownUnit kind
  | .powerOn | .upstreamSend | .unknownRequestCode | .deviceStatus | .deviceReset | .headStart | .headReset
  | .headSetup | .headCommit | .headRelease | .headStatus | .tableWriteGeometry | .tableWriteWindow
  | .tableWriteMarker | .tableWriteLatencyClass | .tableWriteSiteLimits | .tableReadGeometry | .tableReadWindow
  | .tableReadMarker | .tableReadLatencyClass | .tableReadSiteLimits | .tableReadBlockRecord | .setSites
  | .segmentOpen | .segmentClose | .stopSite | .verdictRead | .repairRead | .logRead | .eventClear | .eventMask
  | .maintAccess | .headBurstSend _ | .maintSend _ | .probeSend _ | .burstTransmitEnd _ | .roundTripTimeout _
  | .maintAnswer _ _ | .proxyTimeout _ | .supplyGoodFall _ | .supplyGoodRise _ | .fenceTimerExpiry _
  | .laneSignalLoss _ | .laneSignalReturn _ | .resultRecord _ _ | .trackingExpiry _ | .failEntryAdmit _ | .itemTake
  | .itemCompletion | .solveJobTake | .solveJobCompletion | .failEntryArrival _ => true

end Sys2Proof
end

