-- ==== Sys2Proof/Safety.lean ====
section
/-! DEFINITION. What claims are stated in: a request that can be executed and the state once it is answered, the
invariants of the part, and the soundness notions of repair analysis. -/

namespace Sys2Proof.Machine

/-! ### Executing a request (R8, R9) -/

/-- REX can take the request `r` at the head of the Request Queue: it is executing none, the link is IN_SYNC and the
Upstream Queue has a free slot (R8). -/
def State.ready (s : State) (r : Request) (rest : List Request) : Prop :=
  s.requests = r :: rest ∧ s.executing = none ∧ s.link = .inSync
    ∧ s.upstream.length + s.reservations.length < Config.upstreamQueueSize

/-- The request is of the given form and passes the checks of R9: its argument length, its indices and the acceptance
condition of its form. -/
def Request.passes (r : Request) (form : RequestForm) (s : State) : Prop :=
  r.form = form ∧ form ≠ .unknown ∧ r.args.length = form.argLength
    ∧ (∀ p ∈ form.indices, (r.arg p.1).toNat < p.2) ∧ form.accepted s r.head = true

/-- The state in which the request has left the queue and its reply stands at the tail of the Upstream Queue, and
nothing else has changed (R8). -/
def State.answered (s : State) (r : Request) (rest : List Request) (st : Status) (body : ReplyBody) : State :=
  { s with requests := rest, upstream := s.upstream ++ [.reply ⟨r.id, r.code, st, body⟩] }

/-- The NOTICE that an event causes when it is raised on head `h`: `before` holds the event set and the mask that decide
(R153), `after` the head as the notice shows it (R154), and `assigned` counts the slots assigned to a reply under way,
with the one of the request that stands under execution in `s`, if there is one, counted in any case (R13). -/
def State.noticesFor (s : State) (h : HeadId) (e : HeadEvent) (before after : Head) (assigned : Nat) : List UpFrame :=
  if e.isIn before.events = false ∧ e.isIn before.mask = true ∧ s.link = .inSync
      ∧ s.upstream.length + s.reservations.length + max assigned (if s.executing = none then 0 else 1) + 2
        ≤ Config.upstreamQueueSize then
    [.notice ⟨h, after.state, after.events⟩]
  else []

/-- The ABORTED reply that a closing of head `h` makes: for an access in its proxy slot whose reply is wanted and has its
reservation (R12, R31), and none otherwise. -/
def State.abortedFor (s : State) (h : HeadId) : List UpFrame :=
  match (s.head h).slot with
  | none => []
  | some a =>
    match a.origin with
    | .profileRead => []
    | .mainframe id code =>
      if a.replyWanted = true ∧ h ∈ s.reservations ∧ s.link = .inSync then [.reply ⟨id, code, .aborted, .empty⟩] else []

/-- A fail item that carries the current generation of head `h` is queued or being processed (R48). -/
def State.hasLiveItem (s : State) (h : HeadId) : Prop :=
  (∃ it ∈ s.analysis, it.head = h ∧ it.generation = (s.head h).generation)
    ∨ (∃ it o, s.engine = .item it o ∧ it.head = h ∧ it.generation = (s.head h).generation)

/-- No head but `h` differs between two states. -/
def State.onlyHead (s t : State) (h : HeadId) : Prop := ∀ k, k ≠ h → t.head k = s.head k

/-- The forms of request that each command of REX executes; `none` for the commands of the other blocks. -/
def requestFormOf : Instr → Option RequestForm
  | .unknownRequestCode => some .unknown
  | .deviceStatus => some .deviceStatus
  | .deviceReset => some .deviceReset
  | .headStart => some .headStart
  | .headReset => some .headReset
  | .headSetup => some .headSetup
  | .headCommit => some .headCommit
  | .headRelease => some .headRelease
  | .headStatus => some .headStatus
  | .tableWriteGeometry => some .writeGeometry
  | .tableWriteWindow => some .writeWindow
  | .tableWriteMarker => some .writeMarker
  | .tableWriteLatencyClass => some .writeLatencyClass
  | .tableWriteSiteLimits => some .writeSiteLimits
  | .tableReadGeometry => some .readGeometry
  | .tableReadWindow => some .readWindow
  | .tableReadMarker => some .readMarker
  | .tableReadLatencyClass => some .readLatencyClass
  | .tableReadSiteLimits => some .readSiteLimits
  | .tableReadBlockRecord => some .readBlock
  | .setSites => some .setSites
  | .segmentOpen => some .segmentOpen
  | .segmentClose => some .segmentClose
  | .stopSite => some .stopSite
  | .verdictRead => some .verdictRead
  | .repairRead => some .repairRead
  | .logRead => some .logRead
  | .eventClear => some .eventClear
  | .eventMask => some .eventMask
  | .maintAccess => some .maintAccess
  | .powerOn | .syncAcquisition _ | .patternLinkLoss _ | .burst _ | .requestFrame _ | .malformedFrame _
  | .frameCheckFailure _ | .upstreamSend | .headBurstSend _ | .maintSend _ | .probeSend _ | .burstTransmitEnd _
  | .echo _ _ | .roundTripTimeout _ | .maintAnswer _ _ | .proxyTimeout _ | .supplyGoodFall _ | .supplyGoodRise _
  | .fenceTimerExpiry _ | .laneSignalLoss _ | .laneSignalReturn _ | .unknownUnitDiscard _ _ _ | .resultRecord _ _
  | .trackingExpiry _ | .failEntryAdmit _ | .itemTake | .itemCompletion | .solveJobTake | .solveJobCompletion
  | .failEntryArrival _ => none

/-- The head on whose lane a command happens, for the events of a Head Lane that let no time pass. -/
def laneOf : Instr → Option HeadId
  | .headBurstSend h | .maintSend h | .probeSend h | .burstTransmitEnd h | .maintAnswer h _ | .supplyGoodFall h
  | .supplyGoodRise h | .laneSignalLoss h | .laneSignalReturn h | .unknownUnitDiscard h _ _ | .resultRecord h _
  | .failEntryAdmit h | .failEntryArrival h => some h
  | .powerOn | .syncAcquisition _ | .patternLinkLoss _ | .burst _ | .requestFrame _ | .malformedFrame _
  | .frameCheckFailure _ | .upstreamSend | .unknownRequestCode | .deviceStatus | .deviceReset | .headStart | .headReset
  | .headSetup | .headCommit | .headRelease | .headStatus | .tableWriteGeometry | .tableWriteWindow
  | .tableWriteMarker | .tableWriteLatencyClass | .tableWriteSiteLimits | .tableReadGeometry | .tableReadWindow
  | .tableReadMarker | .tableReadLatencyClass | .tableReadSiteLimits | .tableReadBlockRecord | .setSites
  | .segmentOpen | .segmentClose | .stopSite | .verdictRead | .repairRead | .logRead | .eventClear | .eventMask
  | .maintAccess | .echo _ _ | .roundTripTimeout _ | .proxyTimeout _ | .fenceTimerExpiry _ | .trackingExpiry _
  | .itemTake | .itemCompletion | .solveJobTake | .solveJobCompletion => none

/-! ### Invariants of the part -/

/-- The Pattern Link: nothing is under execution between commands, the two queues keep their sizes (R7, R11), the
failure run is below 8 (R4), the counts saturate (R2, R7), and out of synchronisation the queues, the reservations, the
failure run and the expected sequence are empty (R3, R4). -/
structure State.LinkInv (s : State) : Prop where
  executing : s.executing = none
  requests : s.requests.length ≤ Config.requestQueueSize
  upstream : s.upstream.length + s.reservations.length ≤ Config.upstreamQueueSize
  reservations : s.reservations.Nodup
  failureRun : s.failureRun < Config.failureRunLimit
  crcDiscards : s.crcDiscards ≤ Config.countTop
  requestDrops : s.requestDrops ≤ Config.countTop
  outOfSync : s.link = .outOfSync →
    s.requests = [] ∧ s.upstream = [] ∧ s.reservations = [] ∧ s.failureRun = 0 ∧ s.expected = none

/-- The sizes of the queues, buffers and counts of one head (R34, R35, R41, R45, R71, R79, R80, R147). -/
structure Head.CapacityInv (hd : Head) : Prop where
  sendQueue : hd.sendQueue.length ≤ Config.sendQueueSize
  tracking : hd.tracking.length ≤ Config.trackingQueueSize
  log : hd.log.length ≤ Config.failLogSize
  records : hd.bufferRecords ≤ Config.laneRecords
  entries : hd.bufferEntries ≤ Config.laneEntries
  held : hd.laneHeld = hd.holdDue
  strays : hd.strays ≤ Config.countTop
  skipped : hd.skipped ≤ Config.countTop
  rawFails : ∀ i, (hd.site i).rawFails ≤ Config.countTop

/-- The sizes of every head's queues, of the Analysis Queue (R114) and of the arbiter's count (R116). -/
structure State.CapacityInv (s : State) : Prop where
  heads : ∀ h, (s.head h).CapacityInv
  analysis : s.analysis.length ≤ Config.analysisQueueSize
  arbiter : s.arbiterCount ≤ Config.itemsPerJob

/-- The life of one head: a phase in TRAINING alone (2.1), the states in which the proxy slot is in use (R24, R37), a
tracking queue in TESTING and DRAINING alone (R49, R86), a fence timer exactly while the line is low in a monitored
state (R29), and the lane signal present in every monitored state (R32). -/
structure Head.LifeInv (hd : Head) : Prop where
  phase : hd.phase.isSome = true ↔ hd.state = .training
  profileRead : ∀ a, hd.slot = some a → a.origin = .profileRead → hd.state = .training ∧ a.replyWanted = false
  mainframe : ∀ a, hd.slot = some a → a.origin ≠ .profileRead →
    hd.state ≠ .offline ∧ hd.state ≠ .training ∧ hd.state ≠ .fenced
  tracking : hd.state.collecting = false → hd.tracking = []
  fenceTimer : hd.fenceTimer.isSome = true ↔ (hd.state.monitored = true ∧ hd.supplyGood = false)
  laneSignal : hd.state.monitored = true → hd.laneSignal = true

/-- The life of every head, with what the shared blocks hold for it: a reservation exactly while its slot holds an
access whose reply is wanted (R12), items and jobs of its current generation alone (R20, R114, R134), and jobs in
SOLVING alone (R49, R50). -/
structure State.LifeInv (s : State) : Prop where
  heads : ∀ h, (s.head h).LifeInv
  reserved : ∀ h, h ∈ s.reservations ↔ ∃ a, (s.head h).slot = some a ∧ a.replyWanted = true
  items : ∀ it ∈ s.analysis, it.generation = (s.head it.head).generation
  item : ∀ it, s.engine = .item it false → it.generation = (s.head it.head).generation
  jobs : ∀ j ∈ s.solveList, j.generation = (s.head j.head).generation ∧ (s.head j.head).state = .solving
  job : ∀ j found, s.engine = .job j found false →
    j.generation = (s.head j.head).generation ∧ (s.head j.head).state = .solving

/-- The tracking queue and the lane buffer of one head: the ANSWERED entries come first, and are those of the buffered
records in their order (R85, R93), and deadlines are paused exactly while the lane is held (R82). -/
structure Head.IntakeInv (hd : Head) : Prop where
  answeredFirst : ∃ pre post, hd.tracking = pre ++ post ∧ (∀ e ∈ pre, e.deadline = .answered)
    ∧ (∀ e ∈ post, e.deadline ≠ .answered) ∧ pre.map TrackEntry.tag = hd.laneBuffer.map BufferedRecord.tag
  held : hd.laneHeld = true → ∀ e ∈ hd.tracking, ∀ n, e.deadline ≠ .running n
  released : hd.laneHeld = false → ∀ e ∈ hd.tracking, ∀ n, e.deadline ≠ .paused n

/-- The tags of the unanswered entries of a head are a run of consecutive values modulo 256, oldest first, that ends just
below the tag counter (R79, R80). -/
def Head.TagRun (hd : Head) : Prop :=
  let waiting := hd.tracking.filter TrackEntry.unanswered
  waiting.map TrackEntry.tag
    = (List.range waiting.length).map (fun i => hd.tagCounter - BitVec.ofNat 8 (waiting.length - i))

/-! ### Repair analysis (chapters 7 and 8) -/

/-- A choice of rows and column lines covers every entry of a fail list. -/
def coversAll (rows cols : List Nat) (fails : List FailListEntry) : Prop :=
  ∀ e ∈ fails, e.row ∈ rows ∨ e.col ∈ cols

/-- A fail list can be covered with the spares that a block has left. -/
def Block.repairable (g : Geometry) (b : Block) (fails : List FailListEntry) : Prop :=
  ∃ rows cols, rows.length ≤ b.rowsLeft g ∧ cols.length ≤ b.colsLeft g ∧ coversAll rows cols fails

/-- What every Block Record keeps: committed lines within the spares and without repeats (R120), and a fail list of
distinct cells off the committed lines (R121). -/
structure Block.Sound (g : Geometry) (b : Block) : Prop where
  rows : b.rows.length ≤ g.sr
  cols : b.cols.length ≤ g.sc
  rowsDistinct : b.rows.Nodup
  colsDistinct : b.cols.Nodup
  cells : (b.fails.map (fun e => (e.row, e.col))).Nodup
  uncovered : ∀ e ∈ b.fails, e.row ∉ b.rows ∧ e.col ∉ b.cols

/-- What a block in COLLECTING keeps while no item of it is under processing: no line holds more fails than the spares
of the other kind that are left, and the list is within its bound (R129). -/
structure Block.AtRest (g : Geometry) (b : Block) : Prop where
  sound : b.Sound g
  rowCounts : ∀ r, b.rowCount r ≤ b.colsLeft g
  colCounts : ∀ c, b.colCount c ≤ b.rowsLeft g
  bound : b.fails.length ≤ 2 * b.rowsLeft g * b.colsLeft g

/-- The Block Records of every head: spare counts of at most 4 (R100), sound lists of at most 33 entries (R120, R121),
every block in COLLECTING at rest (R129), and the result that a running job holds for a block in QUEUED the one that the
search finds on it (R136). -/
structure State.BlockInv (s : State) : Prop where
  spares : ∀ h, (s.head h).geometry.sr ≤ 4 ∧ (s.head h).geometry.sc ≤ 4
  sound : ∀ h i b, ((s.head h).block i b).Sound (s.head h).geometry
  size : ∀ h i b, ((s.head h).block i b).fails.length ≤ 33
  atRest : ∀ h i b, ((s.head h).block i b).state = .collecting → ((s.head h).block i b).AtRest (s.head h).geometry
  job : ∀ j found, s.engine = .job j found false → ((s.head j.head).block j.site j.block).state = .queued →
    found = solve (s.head j.head).geometry ((s.head j.head).block j.site j.block)

end Sys2Proof.Machine
end

