-- ==== Sys2Proof/Certificates/Slice0/Obligations.lean ====
section
/-! DEFINITION. The statements for the provers. -/

open Sys2Proof Sys2Proof.Machine

/-! ### The step -/

/-- The part takes its commands one at a time, from the front of the queue of waiting commands: a step at a state with a
command in front is that command on the state with the rest of the queue. -/
def Obligations.StepRunsFrontCommand : Prop :=
  ∀ (c : Instr) (rest : List Instr) (s : State), s.pending = c :: rest → step s = exec c { s with pending := rest }

/-- The model's choice (log entry 1): with no command waiting, one lane quantum passes. As 5.2 says, each RUNNING
deadline counts down by one and stays at 0; the round-trip timer counts up to 16,384, where it stays (the model's
choice, log entry 3), and the fence and proxy timers count down in the same lane quanta (the model's reading, log
entry 4). Nothing else changes. -/
def Obligations.IdleStepLetsOneQuantumPass : Prop :=
  ∀ s : State, s.pending = [] → ∃ t, step s = .next t ∧ t = { s with heads := t.heads } ∧ ∀ h,
    t.head h = { s.head h with
      tracking := (s.head h).tracking.map (fun e =>
        { e with deadline := match e.deadline with
            | .running n => .running (n - 1)
            | d => d })
      roundTripTimer := (s.head h).roundTripTimer.map (fun n => min (n + 1) 16384)
      fenceTimer := (s.head h).fenceTimer.map (fun n => n - 1)
      slot := (s.head h).slot.map (fun a => { a with timer := a.timer - 1 }) }

/-- The model's reading (log entry 2): no command stops the part. -/
def Obligations.NoCommandStops : Prop := ∀ (c : Instr) (s : State), ∃ t, exec c s = .next t

/-! ### Power-on (1.7, 2.1, 3.1) -/

/-- What the part holds right after power-on, and that POWER_ON brings every state to it: the link's values, the Head
Records, the tables, the geometries and windows, the segment variables, the sites and the blocks. That POWER_ON leaves
the levels of the supply-good lines and of the lane signals, which are inputs (log entry 7), empties the bytes last
sent (log entry 8) and keeps the count of free values (log entry 15) is the model's choice. -/
def Obligations.PowerOnValues : Prop :=
  (State.reset.link = .outOfSync ∧ State.reset.failureRun = 0 ∧ State.reset.requests = [] ∧ State.reset.upstream = []
    ∧ State.reset.reservations = [] ∧ State.reset.expected = none ∧ State.reset.crcDiscards = 0
    ∧ State.reset.requestDrops = 0 ∧ State.reset.executing = none ∧ State.reset.analysis = []
    ∧ State.reset.solveList = [] ∧ State.reset.engine = .idle ∧ State.reset.arbiterCount = 0
    ∧ (∀ i : Fin 8, State.reset.markers[i] = ⟨false, 0, 0, 0, .captureOff⟩ ∧ State.reset.latency[i] = ⟨false, 0, 0⟩))
  ∧ (∀ h : HeadId, State.reset.head h = Head.reset)
  ∧ (Head.reset.state = .offline ∧ Head.reset.phase = none ∧ Head.reset.reason = .none
    ∧ Head.reset.classIndex = none ∧ Head.reset.roundTrip = none ∧ Head.reset.profile = none
    ∧ Head.reset.resultWindow = 0 ∧ Head.reset.setup = ⟨.none, .keepTesting, .off, 1, 8⟩ ∧ Head.reset.generation = 0
    ∧ Head.reset.events = 0 ∧ Head.reset.mask = 0 ∧ Head.reset.slot = none ∧ Head.reset.laneBuffer = []
    ∧ Head.reset.laneHeld = false ∧ Head.reset.fenceTimer = none ∧ Head.reset.sendQueue = []
    ∧ Head.reset.tracking = [] ∧ Head.reset.tagCounter = 0 ∧ Head.reset.strays = 0 ∧ Head.reset.log = []
    ∧ Head.reset.overrun = false)
  ∧ (Head.reset.geometry = ⟨false, 0, 0, 0, 0, 0, 0⟩
    ∧ (∀ i : Fin 8, Head.reset.windows[i] = ⟨false, 0, 0, 0, 0⟩)
    ∧ Head.reset.capture = false ∧ Head.reset.logArmed = false ∧ Head.reset.vectorIndex = 0
    ∧ Head.reset.skipped = 0)
  ∧ (∀ i : SiteId, Head.reset.site i = ⟨false, false, false, false, .none, 0, 0, false, 0, false, .none⟩)
  ∧ (∀ (i : SiteId) (b : BlockId), Head.reset.block i b = ⟨.idle, [], [], [], 0⟩)
  ∧ ∀ s : State, ∃ t, exec .powerOn s = .next t
    ∧ t = { State.reset with heads := t.heads, freeCount := s.freeCount, pending := s.pending }
    ∧ ∀ h, t.head h
      = { Head.reset with supplyGood := (s.head h).supplyGood, laneSignal := (s.head h).laneSignal }

/-! ### The Pattern Link (chapter 1) -/

/-- SYNC_ACQUISITION (1.2). The frames that end the search are the second frames of the pairs that complete with the
stream, when no pair has completed before: a pair is two candidates of at most 48 body bytes that pass their checks,
the second beginning where the first ends or after idle fill only. In OUT_OF_SYNC, when one pair completes with the
stream, the link is IN_SYNC with failure run 0, and its second frame is acted on as in IN_SYNC: a burst is
distributed, a request joins the Request Queue or is dropped and counted, and a frame of another kind or length is
counted as discarded. Without such a pair, and in IN_SYNC, nothing happens. That only consecutive bytes make a
candidate, so that one interrupted by idle fill is passed over, is the model's choice (log entry 25); when several
pairs complete together, the frame acted on is that of one of them, by a free value (log entry 13). A request is read
by its id, its code and its arguments, of which a missing id or code reads as 0 (10.3). -/
def Obligations.SyncAcquisitionStartsTheLink : Prop :=
  ∀ (s : State) (stream : List LineSymbol),
    let pair : LinkFrame → List LineSymbol → Prop := fun f post =>
      ∃ (pre : List LineSymbol) (first : LinkFrame) (fill : List LineSymbol),
        stream = pre ++ first.bytes.map .byte ++ fill ++ f.bytes.map .byte ++ post ∧ (∀ x ∈ fill, x = .idle)
        ∧ first.body.length ≤ 48 ∧ first.checkPasses = true ∧ f.body.length ≤ 48 ∧ f.checkPasses = true
    let acted : State → LinkFrame → Host.Outcome State Fault Refusal := fun s' f =>
      let up := { s' with link := .inSync, failureRun := 0 }
      if f.kind = 0x01 ∧ f.body.length = 11 then exec (.burst f) up
      else if f.kind = 0x02 then exec (.requestFrame f) up
      else exec (.malformedFrame f) up
    (∀ f, f ∈ acquiredFrames stream ↔ pair f [] ∧ ∀ g post, pair g post → post = [])
    ∧ (s.link = .outOfSync →
      (acquiredFrames stream = [] → exec (.syncAcquisition stream) s = .next s)
      ∧ (∀ f, acquiredFrames stream = [f] →
        exec (.syncAcquisition stream) s = acted s f
        ∧ (f.kind = 0x02 → s.requests.length < 16 →
          exec (.syncAcquisition stream) s = .next
            { s with
              link := .inSync, failureRun := 0
              requests := s.requests ++ [⟨f.body.getD 0 0, f.body.getD 1 0, f.body.drop 2⟩] })
        ∧ (f.kind = 0x02 → 16 ≤ s.requests.length →
          exec (.syncAcquisition stream) s = .next
            { s with link := .inSync, failureRun := 0, requestDrops := min (s.requestDrops + 1) 65535 })
        ∧ (f.kind = 0x01 → f.body.length = 11 → s.expected = none → (f.body.getD 2 0).extractLsb' 0 4 = 0 →
          exec (.syncAcquisition stream) s = .next
            { s with
              link := .inSync, failureRun := 0, expected := some ((f.body.getD 0 0 ++ f.body.getD 1 0) + 1) })
        ∧ (f.kind ≠ 0x02 → ¬ (f.kind = 0x01 ∧ f.body.length = 11) →
          exec (.syncAcquisition stream) s = .next
            { s with link := .inSync, failureRun := 0, crcDiscards := min (s.crcDiscards + 1) 65535 }))
      ∧ (2 ≤ (acquiredFrames stream).length → ∃ f ∈ acquiredFrames stream,
        exec (.syncAcquisition stream) s = acted { s with freeCount := s.freeCount + 1 } f))
    ∧ (s.link = .inSync → exec (.syncAcquisition stream) s = .next s)

/-- PATTERN_LINK_LOSS and FRAME_CHECK_FAILURE (1.1, 1.2): the loss of the signal and a stated length above 48 end
IN_SYNC; a failed check is counted, and the eighth in a row ends IN_SYNC after it has been counted. The loss empties the
Request Queue and the Upstream Queue, releases the reservations, makes the expectation UNSET and leaves everything else,
but for the replies of accesses in proxy slots, which are no longer wanted. -/
def Obligations.LinkLossAndCheckFailures : Prop :=
  ∀ s : State, s.link = .inSync →
    let lost : Nat → State := fun count =>
      { s with
        link := .outOfSync, failureRun := 0, expected := none, requests := [], upstream := [], reservations := []
        crcDiscards := count
        heads := tabulate (fun h =>
          { s.head h with slot := (s.head h).slot.map (fun a => { a with replyWanted := false }) }) }
    let counted := min (s.crcDiscards + 1) 65535
    exec (.patternLinkLoss .signalLost) s = .next (lost s.crcDiscards)
    ∧ (∀ n : BitVec 16, 48 < n.toNat → exec (.patternLinkLoss (.overlongLength n)) s = .next (lost s.crcDiscards))
    ∧ ∀ f : LinkFrame, f.body.length ≤ 48 → f.checkPasses = false →
      (s.failureRun < 7 → exec (.frameCheckFailure f) s
        = .next { s with crcDiscards := counted, failureRun := s.failureRun + 1 })
      ∧ (7 ≤ s.failureRun → exec (.frameCheckFailure f) s = .next (lost counted))

/-- The frame check (10.1): the register over a whole received frame holds 0x1D0F exactly when the check received is
the one that belongs to its kind, length and body. -/
def Obligations.CheckPassesOnlyForTheRightCheck : Prop :=
  ∀ f : LinkFrame, f.checkPasses = true ↔ f.check = frameCheck (LinkFrame.covered f.kind f.body)

/-- REQUEST_FRAME and MALFORMED_FRAME (1.1, 1.4): a request joins the tail of the Request Queue when it holds fewer
than 16, and is otherwise dropped and counted; a frame of another kind, or a BURST of another length, is counted as
discarded. Each sets the failure run to 0. Byte 0 of a request is its id, byte 1 its code and the rest its arguments,
and a missing id or code reads as 0 (10.3). -/
def Obligations.RequestsJoinAndOtherFramesAreCounted : Prop :=
  ∀ (s : State) (f : LinkFrame), s.link = .inSync → f.body.length ≤ 48 → f.checkPasses = true →
    (f.kind = 0x02 → s.requests.length < 16 →
      exec (.requestFrame f) s = .next
        { s with failureRun := 0, requests := s.requests ++ [⟨f.body.getD 0 0, f.body.getD 1 0, f.body.drop 2⟩] })
    ∧ (f.kind = 0x02 → 16 ≤ s.requests.length →
      exec (.requestFrame f) s = .next
        { s with failureRun := 0, requestDrops := min (s.requestDrops + 1) 65535 })
    ∧ (f.kind ≠ 0x02 → ¬ (f.kind = 0x01 ∧ f.body.length = 11) →
      exec (.malformedFrame f) s = .next { s with failureRun := 0, crcDiscards := min (s.crcDiscards + 1) 65535 })

/-- UPSTREAM_SEND (1.6): in IN_SYNC the frame at the head of the Upstream Queue leaves it and is sent whole, a reply or
notice with the frame check of its bytes (10.1). A reply carries the id, the code, the status and its body, and a notice
the head, the state and the event set, with the codes and bits of 10.3. That the frame is sent within the step is the
model's choice (log entry 5), and the widths and places of the reply fields are its reading (log entry 10). The body of
each reply is spelled out, field by field. -/
def Obligations.UpstreamSendSendsTheOldestFrame : Prop :=
  (∀ (s : State) (f : UpFrame) (rest : List UpFrame), s.link = .inSync → s.upstream = f :: rest →
    ∃ kind body, f.bytes = (LinkFrame.sealed kind body).bytes
      ∧ (kind = 0x03 ↔ ∃ r, f = .reply r) ∧ (kind = 0x04 ↔ ∃ n, f = .notice n)
      ∧ (∀ r, f = .reply r → body = r.id :: r.code :: r.status.code :: r.body.bytes)
      ∧ (∀ n, f = .notice n → body = [BitVec.ofNat 8 n.head.val, n.state.code, n.events])
      ∧ exec .upstreamSend s = .next { s with upstream := rest, linkOut := (LinkFrame.sealed kind body).bytes })
  ∧ (∀ p ∈ [(Status.done, (0 : Byte)), (.adjusted, 1), (.busy, 2), (.retry, 3), (.refusedState, 4), (.badArgument, 5),
      (.timeout, 6), (.aborted, 7), (.headRefused, 8)], p.1.code = p.2)
  ∧ (∀ p ∈ [(HeadState.offline, (0 : Byte)), (.training, 1), (.config, 2), (.ready, 3), (.testing, 4), (.draining, 5),
      (.solving, 6), (.fenced, 7)], p.1.code = p.2)
  ∧ (∀ p ∈ [(HeadEvent.trained, (1 : BitVec 8)), (.offline, 2), (.fenced, 4), (.segmentDone, 8), (.siteStopped, 16),
      (.resultLoss, 32), (.logOverrun, 64), (.sequenceError, 128)], p.1.bit = p.2)
  ∧ (Phase.hunt.code = 0 ∧ Phase.profile.code = 1)
  ∧ (∀ p ∈ [(Reason.none, (0 : Byte)), (.reset, 1), (.noEcho, 2), (.outOfTable, 3), (.laneLost, 4), (.badProfile, 5),
      (.profileTimeout, 6), (.supply, 7)], p.1.code = p.2)
  ∧ (∀ p ∈ [(CheckMode.none, (0 : Byte)), (.even, 1), (.odd, 2), (.zero, 3)], p.1.code = p.2)
  ∧ (StopPolicy.keepTesting.code = 0 ∧ StopPolicy.stopOnReject.code = 1)
  ∧ (∀ p ∈ [(LogMode.off, (0 : Byte)), (.always, 1), (.onTrigger, 2)], p.1.code = p.2)
  ∧ (∀ p ∈ [(MarkerAction.captureOff, (0 : Byte)), (.captureOn, 1), (.logArm, 2), (.endSegment, 3)], p.1.code = p.2)
  ∧ (∀ p ∈ [(Verdict.none, (0 : Byte)), (.pending, 1), (.pass, 2), (.repaired, 3), (.unrepairable, 4),
      (.incomplete, 5), (.masked, 6)], p.1.code = p.2)
  ∧ (∀ p ∈ [(StopReason.none, (0 : Byte)), (.failLimit, 1), (.reject, 2), (.manual, 3)], p.1.code = p.2)
  ∧ (∀ p ∈ [(BlockState.idle, (0 : Byte)), (.collecting, 1), (.queued, 2), (.solved, 3), (.unrepairable, 4),
      (.stopped, 5)], p.1.code = p.2)
  ∧ (∀ p ∈ [(LogKind.firstFail, (0 : Byte)), (.rowRepair, 1), (.colRepair, 2), (.blockReject, 3), (.unmapped, 4)],
      p.1.code = p.2)
  ∧ (∀ p ∈ [(LossCause.timeout, (1 : BitVec 10)), (.check, 2), (.framing, 4), (.headOverflow, 8), (.sequence, 16),
      (.gap, 32), (.sendOverflow, 64), (.trackOverflow, 128), (.fence, 256), (.laneLost, 512)], p.1.bit = p.2)
  ∧ let one : Nat → List Byte := fun n => [BitVec.ofNat 8 n]
    let two : Nat → List Byte := fun n => [BitVec.ofNat 8 (n / 256), BitVec.ofNat 8 n]
    let four : Nat → List Byte := fun n => two (n / 65536) ++ two n
    let yes : Bool → Byte := fun b => if b then 1 else 0
    let opt : (Nat → List Byte) → Option Nat → List Byte := fun field v => match v with
      | some n => 1 :: field n
      | none => 0 :: field 0
    let counted : List (List Byte) → List Byte := fun l => BitVec.ofNat 8 l.length :: l.flatten
    let setup : Setup → List Byte := fun x =>
      [x.checkMode.code, x.stopPolicy.code, x.logMode.code, BitVec.ofNat 8 x.fenceCode.val, BitVec.ofNat 8 x.proxyTimeout]
    (∀ x : Setup, (ReplyBody.setup x).bytes = setup x)
    ∧ (∀ r : HeadReport, (ReplyBody.headStatus r).bytes
      = [r.state.code] ++ opt one (r.phase.map (fun p => p.code.toNat)) ++ [r.reason.code]
        ++ opt one (r.classIndex.map (fun c => c.val)) ++ opt two r.roundTrip ++ two r.resultWindow
        ++ (match r.profile with
          | some p => [1, BitVec.ofNat 8 p.siteCount, BitVec.ofNat 8 p.ioMax] ++ two p.model.toNat
          | none => [0, 0, 0, 0, 0])
        ++ setup r.setup ++ [r.generation, r.events, r.mask] ++ four r.vectorIndex.toNat ++ two r.skipped
        ++ two r.strays ++ one r.trackingCount ++ one r.sendCount ++ one r.bufferRecords ++ two r.bufferEntries
        ++ [yes r.laneHeld, match r.slotSent with | none => 0 | some false => 1 | some true => 2, yes r.profileRead,
          yes r.supplyGood, yes r.fenceRunning, yes r.laneSignal])
    ∧ (∀ g : Geometry, (ReplyBody.geometry g).bytes
      = yes g.loaded :: (one g.rb ++ one g.cb ++ one g.bb ++ one g.ioc ++ one g.sr ++ one g.sc))
    ∧ (∀ w : Window, (ReplyBody.window w).bytes = yes w.enabled :: (four w.matchBase.toNat ++ four w.matchMask.toNat
      ++ four w.substValue.toNat ++ four w.substMask.toNat))
    ∧ (∀ b : Block, (ReplyBody.block b).bytes = b.state.code :: (counted (b.rows.map two) ++ counted (b.cols.map two)
      ++ counted (b.fails.map (fun e => two e.row ++ two e.col ++ one e.hits ++ four e.firstVector.toNat))
      ++ two b.coveredHits))
    ∧ (∀ vs rs, (ReplyBody.verdicts vs rs).bytes = vs.map Verdict.code ++ rs.map StopReason.code)
    ∧ (∀ r : RepairReport, (ReplyBody.repair r).bytes
      = [r.verdict.code, r.stopReason.code, yes r.enabled] ++ two r.causes.toNat ++ [yes r.unmapped] ++ two r.rawFails
        ++ counted (r.blocks.map (fun b => b.state.code :: (counted (b.rows.map two) ++ counted (b.cols.map two)
          ++ one b.failCount ++ two b.coveredHits))))
    ∧ (∀ entries overrun left, (ReplyBody.log entries overrun left).bytes
      = counted (entries.map (fun e => e.kind.code :: (one e.site.val ++ opt one (e.block.map (fun b => b.val))
          ++ opt two e.row ++ opt two e.col ++ opt four (e.word.map (fun w => w.toNat)) ++ four e.vectorIndex.toNat)))
        ++ [yes overrun] ++ two left)
    ∧ ReplyBody.empty.bytes = []
    ∧ (∀ x, (ReplyBody.events x).bytes = [x]) ∧ (∀ x, (ReplyBody.siteSet x).bytes = two x.toNat)
    ∧ (∀ x, (ReplyBody.answer x).bytes = four x.toNat)
    ∧ (∀ limit on, (ReplyBody.siteLimits limit on).bytes = two limit ++ [yes on])
    ∧ (∀ c : LatencyClass, (ReplyBody.latencyClass c).bytes = yes c.valid :: (two c.maxRoundTrip ++ two c.window))
    ∧ (∀ m : Marker, (ReplyBody.marker m).bytes
      = [yes m.enabled, m.matchValue, m.matchMask, m.scope.setWidth 8, m.action.code])
    ∧ ∀ crc drops expected heads frames reserved,
      (ReplyBody.deviceStatus crc drops expected heads frames reserved).bytes
        = two crc ++ two drops ++ (match expected with
            | some n => 1 :: two n.toNat
            | none => [0, 0, 0])
          ++ heads.map HeadState.code ++ [BitVec.ofNat 8 frames, BitVec.ofNat 8 reserved]

/-! ### Bursts (1.3, chapter 4) -/

/-- BURST (1.3, 4.1): the expectation becomes the sequence number plus one, the failure run 0, and nothing of the
Request Queue, the reservations, the tables, the counts and the Analysis Queue changes; without a gap no head but
those named is touched, and a named head outside TESTING is only counted as skipped. When besides no named head is in
TESTING, the Upstream Queue too is as it was, and nothing changes but the expectation, the failure run and the heads'
skipped counts. The fields of a burst and their places in its body (10.2) are spelled out, here for every statement on
bursts. -/
def Obligations.BurstSequenceAndSkips : Prop :=
  ∀ (s : State) (f : LinkFrame), s.link = .inSync → f.kind = 0x01 → f.body.length = 11 → f.checkPasses = true →
    let at_ : Nat → Byte := fun i => f.body.getD i 0
    let b : Burst := {
      sequence := at_ 0 ++ at_ 1, headMask := (at_ 2).extractLsb' 0 4, compare := (at_ 2).getLsbD 4
      order := if (at_ 2).getLsbD 5 then .colFast else .rowFast, marker := at_ 3, length := at_ 4
      baseRow := at_ 5 ++ at_ 6, baseCol := (at_ 7 ++ at_ 8).extractLsb' 0 12, patternId := at_ 9 ++ at_ 10 }
    Burst.read f.body = b
    ∧ ∃ t, exec (.burst f) s = .next t ∧ t.expected = some (b.sequence + 1) ∧ t.failureRun = 0 ∧ t.link = s.link
      ∧ t.requests = s.requests ∧ t.reservations = s.reservations ∧ t.crcDiscards = s.crcDiscards
      ∧ t.requestDrops = s.requestDrops ∧ t.executing = s.executing ∧ t.linkOut = s.linkOut ∧ t.markers = s.markers
      ∧ t.latency = s.latency ∧ t.analysis = s.analysis ∧ t.engine = s.engine ∧ t.arbiterCount = s.arbiterCount
      ∧ t.pending = s.pending
      ∧ (s.expected = none ∨ s.expected = some b.sequence →
        (∀ h : HeadId,
          (b.headMask.getLsbD h.val = false → t.head h = s.head h)
          ∧ (b.headMask.getLsbD h.val = true → (s.head h).state ≠ .testing →
            t.head h = { s.head h with skipped := min ((s.head h).skipped + 1) 65535 }))
        ∧ ((∀ h : HeadId, b.headMask.getLsbD h.val = true → (s.head h).state ≠ .testing) →
          t = { s with failureRun := 0, expected := some (b.sequence + 1), heads := t.heads }))

/-- The placing of a burst for a head in TESTING (4.4): a compare burst takes a tracking entry and a tag, a drive-only
burst neither; both join the tail of the Send Queue with the coordinates cut to the head's widths, and the vector
index advances by the burst's vectors. A length of 0 stands for 256 vectors (10.2). Here the burst carries no marker
action for the head. -/
def Obligations.BurstIsPlacedForATestingHead : Prop :=
  ∀ (s : State) (f : LinkFrame) (h : HeadId), s.link = .inSync → f.kind = 0x01 → f.body.length = 11 →
    f.checkPasses = true →
    let at_ : Nat → Byte := fun i => f.body.getD i 0
    let b : Burst := {
      sequence := at_ 0 ++ at_ 1, headMask := (at_ 2).extractLsb' 0 4, compare := (at_ 2).getLsbD 4
      order := if (at_ 2).getLsbD 5 then .colFast else .rowFast, marker := at_ 3, length := at_ 4
      baseRow := at_ 5 ++ at_ 6, baseCol := (at_ 7 ++ at_ 8).extractLsb' 0 12, patternId := at_ 9 ++ at_ 10 }
    let hd := s.head h
    let n := if b.length = 0 then 256 else b.length.toNat
    let row := b.baseRow.toNat % 2 ^ hd.geometry.rb
    let col := b.baseCol.toNat % 2 ^ hd.geometry.cb
    let field := siteSet (fun i => (hd.site i).enabled && !(hd.site i).stopped)
    (s.expected = none ∨ s.expected = some b.sequence) → b.headMask.getLsbD h.val = true → hd.state = .testing →
    actionOn (matchedMarker s.markers b.marker) h = none → hd.sendQueue.length < 8 →
    ∃ t, exec (.burst f) s = .next t
      ∧ (b.compare = true ∧ hd.capture = true ∧ field ≠ 0 → hd.tracking.length < 32 →
        t.head h = { hd with
          sendQueue := hd.sendQueue ++ [⟨hd.tagCounter, true, b.order, b.length, row, col, b.patternId, field⟩]
          tracking := hd.tracking
            ++ [⟨hd.tagCounter, row, col, n, b.order, hd.vectorIndex, field, hd.logArmed, .waitingSend⟩]
          tagCounter := hd.tagCounter + 1
          vectorIndex := hd.vectorIndex + BitVec.ofNat 32 n })
      ∧ (b.compare = false ∨ hd.capture = false ∨ field = 0 →
        t.head h = { hd with
          sendQueue := hd.sendQueue ++ [⟨0, false, b.order, b.length, row, col, b.patternId, field⟩]
          vectorIndex := hd.vectorIndex + BitVec.ofNat 32 n })

/-- A burst that finds no room (4.4): with 8 head bursts in the Send Queue it is lost to the head, a compare burst with
SEND_OVERFLOW and RESULT_LOSS and a drive-only burst without a trace; with 32 tracking entries a compare burst is
forwarded drive-only with TRACK_OVERFLOW and RESULT_LOSS. -/
def Obligations.BurstWithoutRoomIsMarked : Prop :=
  ∀ (s : State) (f : LinkFrame) (h : HeadId), s.link = .inSync → f.kind = 0x01 → f.body.length = 11 →
    f.checkPasses = true →
    let b := Burst.read f.body
    let hd := s.head h
    let n := if b.length = 0 then 256 else b.length.toNat
    let field := siteSet (fun i => (hd.site i).enabled && !(hd.site i).stopped)
    let compares := b.compare = true ∧ hd.capture = true ∧ field ≠ 0
    let marked : LossCause → Head := fun c =>
      { hd with
        events := hd.events ||| HeadEvent.resultLoss.bit
        sites := tabulate (fun i =>
          if (hd.site i).enabled = true ∧ (hd.site i).stopped = false ∧ (hd.site i).verdict.isFinal = false then
            { hd.site i with causes := (hd.site i).causes ||| c.bit }
          else hd.site i) }
    (s.expected = none ∨ s.expected = some b.sequence) → b.headMask.getLsbD h.val = true → hd.state = .testing →
    actionOn (matchedMarker s.markers b.marker) h = none →
    ∃ t, exec (.burst f) s = .next t
      ∧ (8 ≤ hd.sendQueue.length → compares → t.head h = marked .sendOverflow)
      ∧ (8 ≤ hd.sendQueue.length → ¬ compares → t.head h = hd)
      ∧ (hd.sendQueue.length < 8 → 32 ≤ hd.tracking.length → compares →
        t.head h = { marked .trackOverflow with
          sendQueue := hd.sendQueue ++ [⟨0, false, b.order, b.length, b.baseRow.toNat % 2 ^ hd.geometry.rb,
            b.baseCol.toNat % 2 ^ hd.geometry.cb, b.patternId, field⟩]
          vectorIndex := hd.vectorIndex + BitVec.ofNat 32 n })

/-- Gap handling (1.3): a burst whose number differs from a set expectation marks every head in TESTING, whatever its
head mask: GAP on each site that is enabled, not stopped and not final, and the event RESULT_LOSS; a head in another
state is not marked. The burst is distributed after the marking: its outcome is that of the same burst, with no gap,
on the state `u` that the marking leaves, so that on a head of its own mask in TESTING a burst without a marker action
is placed after the mark, as the statement on placing says. -/
def Obligations.GapMarksEveryTestingHead : Prop :=
  ∀ (s : State) (f : LinkFrame) (e : BitVec 16), s.link = .inSync → f.kind = 0x01 → f.body.length = 11 →
    f.checkPasses = true → s.expected = some e → e ≠ (Burst.read f.body).sequence →
    let b := Burst.read f.body
    let n := if b.length = 0 then 256 else b.length.toNat
    let gapped : HeadId → Head := fun h =>
      { s.head h with
        events := (s.head h).events ||| HeadEvent.resultLoss.bit
        sites := tabulate (fun i =>
          let st := (s.head h).site i
          if st.enabled = true ∧ st.stopped = false ∧ st.verdict.isFinal = false then
            { st with causes := st.causes ||| LossCause.gap.bit }
          else st) }
    ∃ t u, exec (.burst f) s = .next t ∧ t.expected = some (b.sequence + 1)
      ∧ exec (.burst f) s = exec (.burst f) u
      ∧ u = { s with heads := u.heads, upstream := u.upstream, freeCount := u.freeCount, expected := none }
      ∧ (∀ h, u.head h = if (s.head h).state = .testing then gapped h else s.head h)
      ∧ (∃ notices, u.upstream = s.upstream ++ notices
        ∧ ∀ x ∈ notices, ∃ h, (s.head h).state = .testing ∧ x = .notice ⟨h, .testing, (gapped h).events⟩)
      ∧ (∀ h : HeadId, b.headMask.getLsbD h.val = false →
        ((s.head h).state ≠ .testing → t.head h = s.head h)
        ∧ ((s.head h).state = .testing → t.head h = gapped h))
      ∧ ∀ h : HeadId, b.headMask.getLsbD h.val = true → (s.head h).state = .testing →
        actionOn (matchedMarker s.markers b.marker) h = none → (s.head h).sendQueue.length < 8 →
        let hd := gapped h
        let row := b.baseRow.toNat % 2 ^ hd.geometry.rb
        let col := b.baseCol.toNat % 2 ^ hd.geometry.cb
        let field := siteSet (fun i => (hd.site i).enabled && !(hd.site i).stopped)
        (b.compare = true ∧ hd.capture = true ∧ field ≠ 0 → hd.tracking.length < 32 →
          t.head h = { hd with
            sendQueue := hd.sendQueue ++ [⟨hd.tagCounter, true, b.order, b.length, row, col, b.patternId, field⟩]
            tracking := hd.tracking
              ++ [⟨hd.tagCounter, row, col, n, b.order, hd.vectorIndex, field, hd.logArmed, .waitingSend⟩]
            tagCounter := hd.tagCounter + 1
            vectorIndex := hd.vectorIndex + BitVec.ofNat 32 n })
        ∧ (b.compare = false ∨ hd.capture = false ∨ field = 0 →
          t.head h = { hd with
            sendQueue := hd.sendQueue ++ [⟨0, false, b.order, b.length, row, col, b.patternId, field⟩]
            vectorIndex := hd.vectorIndex + BitVec.ofNat 32 n })

/-- The marker actions (4.2, 4.3): the first enabled entry of the Marker Table that a burst's marker matches acts on
each head that is named, in TESTING and in the entry's scope: CAPTURE_OFF and CAPTURE_ON write the capture flag,
LOG_ARM sets the log-armed flag, and END_SEGMENT takes the head out of TESTING; a head outside the scope takes no
action. The burst that carries the marker is classed, snapshotted and placed with the flags as the action leaves them,
and END_SEGMENT closes the segment after the placing: the head is in DRAINING and the drain condition is tested at
once, as the statement on the end of draining says, with the jobs of the head that this makes. -/
def Obligations.MarkerActsOnTheHeadsInItsScope : Prop :=
  ∀ (s : State) (f : LinkFrame) (h : HeadId) (i : Fin 8), s.link = .inSync → f.kind = 0x01 → f.body.length = 11 →
    f.checkPasses = true →
    let b := Burst.read f.body
    let hits : Fin 8 → Prop := fun k => s.markers[k].enabled = true
      ∧ (b.marker &&& s.markers[k].matchMask) = (s.markers[k].matchValue &&& s.markers[k].matchMask)
    let hd := s.head h
    let act : Option MarkerAction := if s.markers[i].scope.getLsbD h.val then some s.markers[i].action else none
    let capture := if act = some .captureOff then false else if act = some .captureOn then true else hd.capture
    let armed := if act = some .logArm then true else hd.logArmed
    let n := if b.length = 0 then 256 else b.length.toNat
    let row := b.baseRow.toNat % 2 ^ hd.geometry.rb
    let col := b.baseCol.toNat % 2 ^ hd.geometry.cb
    let field := siteSet (fun i => (hd.site i).enabled && !(hd.site i).stopped)
    let placed : Head :=
      if b.compare = true ∧ capture = true ∧ field ≠ 0 then
        { hd with
          capture := capture, logArmed := armed
          sendQueue := hd.sendQueue ++ [⟨hd.tagCounter, true, b.order, b.length, row, col, b.patternId, field⟩]
          tracking := hd.tracking
            ++ [⟨hd.tagCounter, row, col, n, b.order, hd.vectorIndex, field, armed, .waitingSend⟩]
          tagCounter := hd.tagCounter + 1, vectorIndex := hd.vectorIndex + BitVec.ofNat 32 n }
      else
        { hd with
          capture := capture, logArmed := armed
          sendQueue := hd.sendQueue ++ [⟨0, false, b.order, b.length, row, col, b.patternId, field⟩]
          vectorIndex := hd.vectorIndex + BitVec.ofNat 32 n }
    (s.expected = none ∨ s.expected = some b.sequence) → b.headMask.getLsbD h.val = true →
    hd.state = .testing → hits i → (∀ k, k < i → ¬ hits k) →
    ∃ t, exec (.burst f) s = .next t
      ∧ (s.markers[i].scope.getLsbD h.val = false → (t.head h).state = .testing
        ∧ (t.head h).capture = hd.capture ∧ (t.head h).logArmed = hd.logArmed)
      ∧ (s.markers[i].scope.getLsbD h.val = true →
        (s.markers[i].action = .captureOff → (t.head h).state = .testing ∧ (t.head h).capture = false
          ∧ (t.head h).logArmed = hd.logArmed)
        ∧ (s.markers[i].action = .captureOn → (t.head h).state = .testing ∧ (t.head h).capture = true
          ∧ (t.head h).logArmed = hd.logArmed)
        ∧ (s.markers[i].action = .logArm → (t.head h).state = .testing ∧ (t.head h).capture = hd.capture
          ∧ (t.head h).logArmed = true)
        ∧ (s.markers[i].action = .endSegment → (t.head h).capture = hd.capture
          ∧ (t.head h).logArmed = hd.logArmed
          ∧ ((t.head h).state = .draining ∨ (t.head h).state = .solving ∨ (t.head h).state = .ready)))
      ∧ (hd.sendQueue.length < 8 → hd.tracking.length < 32 →
        (act ≠ some .endSegment → t.head h = placed)
        ∧ (act = some .endSegment →
          let closed := (s.updHead h (fun _ => { placed with state := .draining })).testDrain h
          t.head h = closed.head h
          ∧ t.solveList.filter (fun j => j.head == h) = closed.solveList.filter (fun j => j.head == h)
          ∧ (placed.tracking ≠ [] ∨ s.hasLiveItem h → t.head h = { placed with state := .draining })
          ∧ (placed.tracking = [] → ¬ s.hasLiveItem h → t.head h = { placed with
            state := (t.head h).state, events := (t.head h).events, sites := (t.head h).sites
            blocks := (t.head h).blocks })))

/-! ### The Request Executor (1.4, 1.5) -/

/-- The checks of the Request Executor (1.4), for the thirty commands of the catalogue (1.5): the first check that
fails decides the reply, whose body is empty, and nothing else changes. A code outside the catalogue, arguments of
another length, and an index out of range are answered BAD_ARGUMENT; an acceptance condition that is not met,
REFUSED_STATE. The head states in which each request is accepted, the lengths and the indices are spelled out, and so
are the codes, 1 to 20 in the order of the catalogue, the table selectors, 0 to 4 for TABLE_WRITE and 0 to 5 for
TABLE_READ, the place of the head, and how argument bytes are read (10.1, 10.3). That a table form which names no
table counts as an unknown request is the model's choice (log entry 9), and the lengths and places of the arguments
are its reading (log entry 10). -/
def Obligations.FailedCheckIsAnsweredAndChangesNothing : Prop :=
  (∀ (c : Instr) (form : RequestForm) (s : State) (r : Request) (rest : List Request),
    requestFormOf c = some form → s.ready r rest → r.form = form →
    let bad := form = .unknown ∨ r.args.length ≠ form.argLength ∨ ∃ p ∈ form.indices, p.2 ≤ (r.arg p.1).toNat
    (bad → exec c s = .next (s.answered r rest .badArgument .empty))
    ∧ (¬ bad → form.accepted s r.head = false → exec c s = .next (s.answered r rest .refusedState .empty)))
  ∧ (∀ (s : State) (h : HeadId),
    let st := (s.head h).state
    (∀ form ∈ [RequestForm.deviceStatus, .deviceReset, .headReset, .headStatus, .readGeometry, .readWindow, .readMarker,
      .readLatencyClass, .readSiteLimits, .readBlock, .verdictRead, .repairRead, .logRead, .eventClear, .eventMask],
      form.accepted s h = true)
    ∧ (RequestForm.headStart.accepted s h = true ↔ st = .offline)
    ∧ (∀ form ∈ [RequestForm.headSetup, .writeGeometry, .writeWindow],
      form.accepted s h = true ↔ st = .offline ∨ st = .training ∨ st = .config)
    ∧ (RequestForm.headCommit.accepted s h = true ↔ st = .config)
    ∧ (RequestForm.headRelease.accepted s h = true ↔ st = .ready)
    ∧ (RequestForm.writeMarker.accepted s h = true
      ↔ ∀ k, (s.head k).state ≠ .testing ∧ (s.head k).state ≠ .draining)
    ∧ (RequestForm.writeLatencyClass.accepted s h = true ↔ ∀ k, (s.head k).state ≠ .training)
    ∧ (RequestForm.writeSiteLimits.accepted s h = true ↔ st ≠ .testing ∧ st ≠ .draining ∧ st ≠ .solving)
    ∧ (RequestForm.setSites.accepted s h = true
      ↔ st = .config ∨ st = .ready ∨ st = .testing ∨ st = .draining ∨ st = .solving)
    ∧ (RequestForm.segmentOpen.accepted s h = true ↔ st = .ready)
    ∧ (RequestForm.segmentClose.accepted s h = true ↔ st = .testing)
    ∧ (RequestForm.stopSite.accepted s h = true ↔ st = .testing ∨ st = .draining)
    ∧ (RequestForm.maintAccess.accepted s h = true ↔ st ≠ .offline ∧ st ≠ .training ∧ st ≠ .fenced))
  ∧ (∀ p ∈ [(RequestForm.deviceStatus, 0), (.deviceReset, 0), (.headStart, 1), (.headReset, 1), (.headSetup, 6),
      (.headCommit, 1), (.headRelease, 1), (.headStatus, 1), (.writeGeometry, 8), (.writeWindow, 20), (.writeMarker, 7),
      (.writeLatencyClass, 7), (.writeSiteLimits, 6), (.readGeometry, 2), (.readWindow, 3), (.readMarker, 2),
      (.readLatencyClass, 2), (.readSiteLimits, 3), (.readBlock, 4), (.setSites, 3), (.segmentOpen, 1),
      (.segmentClose, 1), (.stopSite, 2), (.verdictRead, 1), (.repairRead, 2), (.logRead, 2), (.eventClear, 2),
      (.eventMask, 2), (.maintAccess, 11)], p.1.argLength = p.2)
  ∧ (∀ form ∈ [RequestForm.headStart, .headReset, .headSetup, .headCommit, .headRelease, .headStatus, .setSites,
      .segmentOpen, .segmentClose, .verdictRead, .logRead, .eventClear, .eventMask, .maintAccess],
      form.indices = [(0, 4)])
  ∧ (∀ p ∈ [(RequestForm.stopSite, [(0, 4), (1, 16)]), (.repairRead, [(0, 4), (1, 16)]), (.writeGeometry, [(1, 4)]),
      (.readGeometry, [(1, 4)]), (.writeWindow, [(1, 4), (2, 8)]), (.readWindow, [(1, 4), (2, 8)]),
      (.writeMarker, [(1, 8)]), (.readMarker, [(1, 8)]), (.writeLatencyClass, [(1, 8)]), (.readLatencyClass, [(1, 8)]),
      (.writeSiteLimits, [(1, 4), (2, 16)]), (.readSiteLimits, [(1, 4), (2, 16)]),
      (.readBlock, [(1, 4), (2, 16), (3, 16)])], p.1.indices = p.2)
  ∧ (∀ p ∈ [((1 : Byte), RequestForm.deviceStatus), (2, .deviceReset), (3, .headStart), (4, .headReset), (5, .headSetup),
      (6, .headCommit), (7, .headRelease), (8, .headStatus), (11, .setSites), (12, .segmentOpen), (13, .segmentClose),
      (14, .stopSite), (15, .verdictRead), (16, .repairRead), (17, .logRead), (18, .eventClear), (19, .eventMask),
      (20, .maintAccess)], ∀ id args, (⟨id, p.1, args⟩ : Request).form = p.2)
  ∧ (∀ p ∈ [((0 : Byte), RequestForm.writeGeometry), (1, .writeWindow), (2, .writeMarker), (3, .writeLatencyClass),
      (4, .writeSiteLimits)], ∀ id rest, (⟨id, 9, p.1 :: rest⟩ : Request).form = p.2)
  ∧ (∀ p ∈ [((0 : Byte), RequestForm.readGeometry), (1, .readWindow), (2, .readMarker), (3, .readLatencyClass),
      (4, .readSiteLimits), (5, .readBlock)], ∀ id rest, (⟨id, 10, p.1 :: rest⟩ : Request).form = p.2)
  ∧ (∀ (id code selector : Byte) (args rest : List Byte),
    (code = 0 ∨ 21 ≤ code.toNat → (⟨id, code, args⟩ : Request).form = .unknown)
    ∧ (5 ≤ selector.toNat → (⟨id, 9, selector :: rest⟩ : Request).form = .unknown)
    ∧ (6 ≤ selector.toNat → (⟨id, 10, selector :: rest⟩ : Request).form = .unknown)
    ∧ (⟨id, 9, []⟩ : Request).form = .unknown ∧ (⟨id, 10, []⟩ : Request).form = .unknown)
  ∧ (∀ form ∈ [RequestForm.writeGeometry, .writeWindow, .writeSiteLimits, .readGeometry, .readWindow, .readSiteLimits,
      .readBlock], ∀ r : Request, r.form = form → r.head.val = (r.args.getD 1 0).toNat % 4)
  ∧ (∀ form ∈ [RequestForm.headStart, .headReset, .headSetup, .headCommit, .headRelease, .headStatus, .setSites,
      .segmentOpen, .segmentClose, .stopSite, .verdictRead, .repairRead, .logRead, .eventClear, .eventMask, .maintAccess],
      ∀ r : Request, r.form = form → r.head.val = (r.args.getD 0 0).toNat % 4)
  ∧ ∀ (r : Request) (i n : Nat),
    r.arg i = r.args.getD i 0 ∧ (r.siteAt i).val = (r.arg i).toNat % 16 ∧ (r.entryAt i).val = (r.arg i).toNat % 8
    ∧ (r.flag i = true ↔ r.arg i ≠ 0) ∧ r.num i 0 = 0
    ∧ (i + n < r.args.length → r.num i (n + 1) = r.num i n * 256 + (r.arg (i + n)).toNat)

/-- The reading requests (R15, R28, and 2.2, 3.2, 3.9, 4.2, 6.1, 6.2, 7.5, 8.5): each is accepted in every state,
answers DONE with what it reports as it stands, and changes nothing but the Request Queue and the Upstream Queue; a
DEVICE_STATUS with arguments is answered BAD_ARGUMENT. The places of a table read's arguments are the model's reading
(log entry 10). -/
def Obligations.ReadbackAnswersAndChangesNothing : Prop :=
  ∀ (s : State) (r : Request) (rest : List Request), s.ready r rest →
    let done : ReplyBody → Host.Outcome State Fault Refusal := fun body => .next (s.answered r rest .done body)
    let hd := s.head r.head
    (∀ form ∈ [RequestForm.deviceStatus, .headStatus, .readGeometry, .readWindow, .readMarker, .readLatencyClass,
      .readSiteLimits, .readBlock, .verdictRead, .repairRead], ∀ (s' : State) (h : HeadId), form.accepted s' h = true)
    ∧ (r.form = .deviceStatus → r.args ≠ [] → exec .deviceStatus s = .next (s.answered r rest .badArgument .empty))
    ∧ (r.passes .deviceStatus s → exec .deviceStatus s = done (.deviceStatus s.crcDiscards s.requestDrops s.expected
      [(s.head 0).state, (s.head 1).state, (s.head 2).state, (s.head 3).state] s.upstream.length
      s.reservations.length))
    ∧ (r.passes .headStatus s → exec .headStatus s = done (.headStatus {
        state := hd.state, phase := hd.phase, reason := hd.reason, classIndex := hd.classIndex
        roundTrip := hd.roundTrip, resultWindow := hd.resultWindow, profile := hd.profile, setup := hd.setup
        generation := hd.generation, events := hd.events, mask := hd.mask, vectorIndex := hd.vectorIndex
        skipped := hd.skipped, strays := hd.strays, trackingCount := hd.tracking.length
        sendCount := hd.sendQueue.length, bufferRecords := hd.bufferRecords, bufferEntries := hd.bufferEntries
        laneHeld := hd.laneHeld, slotSent := hd.slot.map (fun a => a.sent)
        profileRead := hd.slot.any (fun a => a.origin == .profileRead), supplyGood := hd.supplyGood
        fenceRunning := hd.fenceTimer.isSome, laneSignal := hd.laneSignal }))
    ∧ (r.passes .readGeometry s → exec .tableReadGeometry s = done (.geometry hd.geometry))
    ∧ (r.passes .readWindow s → exec .tableReadWindow s = done (.window hd.windows[r.entryAt 2]))
    ∧ (r.passes .readMarker s → exec .tableReadMarker s = done (.marker s.markers[r.entryAt 1]))
    ∧ (r.passes .readLatencyClass s → exec .tableReadLatencyClass s = done (.latencyClass s.latency[r.entryAt 1]))
    ∧ (r.passes .readSiteLimits s → exec .tableReadSiteLimits s
      = done (.siteLimits (hd.site (r.siteAt 2)).failLimit (hd.site (r.siteAt 2)).logEnable))
    ∧ (r.passes .readBlock s → exec .tableReadBlockRecord s = done (.block (hd.block (r.siteAt 2) (r.siteAt 3))))
    ∧ (r.passes .verdictRead s → exec .verdictRead s = done (.verdicts
        ((List.finRange 16).map (fun i => (hd.site i).verdict))
        ((List.finRange 16).map (fun i => (hd.site i).stopReason))))
    ∧ (r.passes .repairRead s → exec .repairRead s = done (.repair {
        verdict := (hd.site (r.siteAt 1)).verdict, stopReason := (hd.site (r.siteAt 1)).stopReason
        enabled := (hd.site (r.siteAt 1)).enabled, causes := (hd.site (r.siteAt 1)).causes
        unmapped := (hd.site (r.siteAt 1)).unmapped, rawFails := (hd.site (r.siteAt 1)).rawFails
        blocks := if hd.geometry.loaded then
            ((List.finRange 16).filter (fun b => b.val < 2 ^ hd.geometry.bb)).map (fun b =>
              let x := hd.block (r.siteAt 1) b
              ⟨x.state, x.rows, x.cols, x.fails.length, x.coveredHits⟩)
          else [] }))

/-- DEVICE_RESET (1.7): the link stays in synchronisation, the Upstream Queue holds the reply and then an ABORTED reply
for each access whose reply was wanted, in head order, and every other part of the state has its power-on value; the
inputs, the unit that a lane is sending and the rest of a record that a lane is carrying run on (2.9, 4.5; log
entries 6 and 7). That the bytes last sent (log entry 8) and the count of free values (log entry 15) stay is the model's
choice. -/
def Obligations.DeviceResetRestoresPowerOnValues : Prop :=
  ∀ (s : State) (r : Request) (rest : List Request), s.ready r rest → r.passes .deviceReset s →
    ∃ t, exec .deviceReset s = .next t
      ∧ t = { State.reset with
          link := .inSync, upstream := t.upstream, linkOut := s.linkOut, heads := t.heads
          freeCount := s.freeCount, pending := s.pending }
      ∧ (∀ h, t.head h = { Head.reset with
          supplyGood := (s.head h).supplyGood, laneSignal := (s.head h).laneSignal
          transmitting := (s.head h).transmitting, laneOut := (s.head h).laneOut
          reception := (s.head h).reception.map (fun _ => .discarding) })
      ∧ ∃ aborted : HeadId → List UpFrame,
        t.upstream = .reply ⟨r.id, r.code, .done, .empty⟩ :: (aborted 0 ++ aborted 1 ++ aborted 2 ++ aborted 3)
        ∧ ∀ h,
          ((s.head h).slot = none → aborted h = [])
          ∧ ∀ a, (s.head h).slot = some a →
            (a.origin = .profileRead ∨ a.replyWanted = false ∨ h ∉ s.reservations → aborted h = [])
            ∧ ∀ id code, a.origin = .mainframe id code → a.replyWanted = true → h ∈ s.reservations →
              aborted h = [.reply ⟨id, code, .aborted, .empty⟩]

/-- HEAD_START (2.3): the head enters TRAINING with phase HUNT and its training results cleared, a PROBE waits, the
present flags are cleared with the profile (3.1), and a fence timer starts if the supply-good line is low. With the
lane signal absent, lane loss takes the head to OFFLINE with reason LANE_LOST within the same request, by the closing
actions: a new generation (2.1), the head's items and jobs removed and its work in the engine overtaken (7.1, 8.1),
LANE_LOST on each enabled site that is not final, with its COLLECTING and QUEUED blocks STOPPED and its verdict fixed
(3.8, 3.9); an access left in the proxy slot is answered ABORTED before the notice. Nothing else changes. That the
fence delay counts 128 lane quanta and its doubles is the model's reading (log entry 4). -/
def Obligations.HeadStartBeginsTraining : Prop :=
  ∀ (s : State) (r : Request) (rest : List Request), s.ready r rest → r.passes .headStart s →
    let h := r.head
    let hd := s.head h
    ∃ t, exec .headStart s = .next t ∧ s.onlyHead t h
      ∧ (hd.laneSignal = true →
        t = { s.answered r rest .done .empty with heads := t.heads }
        ∧ t.head h = { hd with
            state := .training, phase := some .hunt, reason := .none, classIndex := none, roundTrip := none
            profile := none, resultWindow := 0, probeWaiting := true, roundTripTimer := none
            fenceTimer := if hd.supplyGood then none else some (128 * 2 ^ hd.setup.fenceCode.val)
            sites := tabulate (fun i => { hd.site i with present := false }) })
      ∧ (hd.laneSignal = false →
        let live : SiteId → Prop := fun i => (hd.site i).enabled = true ∧ (hd.site i).verdict.isFinal = false
        let rejected : SiteId → Prop := fun i => (∃ b, (hd.block i b).state = .unrepairable)
          ∨ (hd.site i).unmapped = true ∨ (hd.site i).stopReason = .failLimit ∨ (hd.site i).stopReason = .reject
        t = { s with
          heads := t.heads, requests := rest
          reservations := if s.abortedFor h = [] then s.reservations else s.reservations.erase h
          upstream := s.upstream ++ s.abortedFor h ++ s.noticesFor h .offline hd (t.head h) 1
            ++ [.reply ⟨r.id, r.code, .done, .empty⟩]
          analysis := s.analysis.filter (fun it => it.head != h)
          solveList := s.solveList.filter (fun j => j.head != h), engine := s.engine.overtake h }
        ∧ t.head h = { hd with
          state := .offline, phase := none, reason := .laneLost, classIndex := none, roundTrip := none
          profile := none, resultWindow := 0, generation := hd.generation + 1
          events := hd.events ||| HeadEvent.offline.bit, tracking := [], sendQueue := [], laneBuffer := []
          reception := none, laneHeld := false, fenceTimer := none, probeWaiting := false, roundTripTimer := none
          slot := none, sites := (t.head h).sites, blocks := (t.head h).blocks }
        ∧ ∀ i,
          (¬ live i → (t.head h).site i = { hd.site i with present := false }
            ∧ ∀ b, (t.head h).block i b = hd.block i b)
          ∧ (live i → (t.head h).site i
              = { hd.site i with
                present := false, causes := (hd.site i).causes ||| LossCause.laneLost.bit
                verdict := ((t.head h).site i).verdict }
            ∧ (rejected i → ((t.head h).site i).verdict = .unrepairable)
            ∧ (¬ rejected i → ((t.head h).site i).verdict = .incomplete)
            ∧ ∀ b, (t.head h).block i b
              = if (hd.block i b).state = .collecting ∨ (hd.block i b).state = .queued then
                  { hd.block i b with state := .stopped }
                else hd.block i b))

/-- HEAD_RESET (2.8): the closing actions without loss marking, then the head's reset values; the setup, the geometry,
the windows, the event mask, and of each site enabled_next, the fail limit and the log enable are kept. The event
OFFLINE stands alone in the emptied set. An access in the proxy slot whose reply is wanted is answered ABORTED, then
stands the notice, when one is admitted, and then the reply. -/
def Obligations.HeadResetClearsTheHead : Prop :=
  ∀ (s : State) (r : Request) (rest : List Request), s.ready r rest → r.passes .headReset s →
    let h := r.head
    let hd := s.head h
    ∃ t, exec .headReset s = .next t ∧ s.onlyHead t h
      ∧ t = { s with
          heads := t.heads, requests := rest, upstream := t.upstream
          reservations := if s.abortedFor h = [] then s.reservations else s.reservations.erase h
          analysis := s.analysis.filter (fun it => it.head != h)
          solveList := s.solveList.filter (fun j => j.head != h), engine := s.engine.overtake h }
      ∧ t.upstream = s.upstream ++ s.abortedFor h ++ s.noticesFor h .offline { hd with events := 0 } (t.head h) 1
          ++ [.reply ⟨r.id, r.code, .done, .empty⟩]
      ∧ t.head h = { Head.reset with
          reason := .reset, generation := hd.generation + 1, events := HeadEvent.offline.bit
          setup := hd.setup, mask := hd.mask, geometry := hd.geometry, windows := hd.windows
          supplyGood := hd.supplyGood, laneSignal := hd.laneSignal, transmitting := hd.transmitting
          laneOut := hd.laneOut, reception := hd.reception.map (fun _ => .discarding)
          sites := tabulate (fun i =>
            { Site.reset with
              enabledNext := (hd.site i).enabledNext, failLimit := (hd.site i).failLimit
              logEnable := (hd.site i).logEnable }) }

/-- HEAD_SETUP, HEAD_COMMIT and HEAD_RELEASE (2.4): a setup with legal codes is written with its proxy timeout taken to
1 to 64 ms, ADJUSTED when that changed it, and one with an illegal code is answered BAD_ARGUMENT; a commit needs a
loaded geometry whose IO count the profile allows, and leads to READY; a release leads back to CONFIG. Nothing else
changes. The places of the setup's arguments are the model's reading (log entry 10). -/
def Obligations.SetupCommitAndRelease : Prop :=
  ∀ (s : State) (r : Request) (rest : List Request), s.ready r rest →
    let h := r.head
    (r.passes .headSetup s →
      ∃ t, exec .headSetup s = .next t ∧ s.onlyHead t h
        ∧ (4 ≤ (r.arg 1).toNat ∨ 2 ≤ (r.arg 2).toNat ∨ 3 ≤ (r.arg 3).toNat ∨ 4 ≤ (r.arg 4).toNat →
          t = s.answered r rest .badArgument .empty)
        ∧ ∀ (c : CheckMode) (p : StopPolicy) (l : LogMode) (fc : Fin 4), c.code = r.arg 1 → p.code = r.arg 2 →
          l.code = r.arg 3 → fc.val = (r.arg 4).toNat →
          let ms := min (max (r.arg 5).toNat 1) 64
          let x : Setup := ⟨c, p, l, fc, ms⟩
          t = { s.answered r rest (if ms = (r.arg 5).toNat then .done else .adjusted) (.setup x) with
            heads := t.heads }
          ∧ t.head h = { s.head h with setup := x })
    ∧ (r.passes .headCommit s →
      ((s.head h).profile = none → exec .headCommit s = .next (s.answered r rest .badArgument .empty))
      ∧ ∀ p, (s.head h).profile = some p →
        ((s.head h).geometry.loaded = true ∧ (s.head h).geometry.ioc ≤ p.ioMax →
          ∃ t, exec .headCommit s = .next t ∧ s.onlyHead t h
            ∧ t = { s.answered r rest .done .empty with heads := t.heads }
            ∧ t.head h = { s.head h with state := .ready })
        ∧ (¬ ((s.head h).geometry.loaded = true ∧ (s.head h).geometry.ioc ≤ p.ioMax) →
          exec .headCommit s = .next (s.answered r rest .badArgument .empty)))
    ∧ (r.passes .headRelease s →
      ∃ t, exec .headRelease s = .next t ∧ s.onlyHead t h
        ∧ t = { s.answered r rest .done .empty with heads := t.heads }
        ∧ t.head h = { s.head h with state := .config })

/-- TABLE_WRITE GEOMETRY and TABLE_WRITE WINDOW (6.1, 6.2): a valid geometry is written with its spare counts taken to
at most 4, and clears every Block Record of the head; an invalid one is answered BAD_ARGUMENT. A window is written with
the bits at or above bit 28 cleared. A value that was changed makes the reply ADJUSTED. The places of the
arguments are the model's reading (log entry 10). -/
def Obligations.GeometryAndWindowWrites : Prop :=
  ∀ (s : State) (r : Request) (rest : List Request), s.ready r rest →
    let h := r.head
    let n : Nat → Nat := fun i => (r.arg i).toNat
    (r.passes .writeGeometry s →
      let valid := 1 ≤ n 2 ∧ n 2 ≤ 16 ∧ 1 ≤ n 3 ∧ n 3 ≤ 12 ∧ n 4 ≤ 4 ∧ n 4 < n 2 ∧ 1 ≤ n 5 ∧ n 5 ≤ 16
      let g : Geometry := ⟨true, n 2, n 3, n 4, n 5, min (n 6) 4, min (n 7) 4⟩
      (¬ valid → exec .tableWriteGeometry s = .next (s.answered r rest .badArgument .empty))
      ∧ (valid → ∃ t, exec .tableWriteGeometry s = .next t ∧ s.onlyHead t h
        ∧ t = { s.answered r rest (if n 6 ≤ 4 ∧ n 7 ≤ 4 then .done else .adjusted) (.geometry g) with
            heads := t.heads }
        ∧ t.head h = { s.head h with geometry := g, blocks := Head.idleBlocks }))
    ∧ (r.passes .writeWindow s →
      ∃ (t : State) (w : Window), exec .tableWriteWindow s = .next t ∧ s.onlyHead t h
        ∧ (w.enabled = true ↔ r.arg 3 ≠ 0) ∧ w.matchBase = BitVec.ofNat 28 (r.num 4 4)
        ∧ w.matchMask = BitVec.ofNat 28 (r.num 8 4) ∧ w.substValue = BitVec.ofNat 28 (r.num 12 4)
        ∧ w.substMask = BitVec.ofNat 28 (r.num 16 4)
        ∧ t = { s.answered r rest
              (if r.num 4 4 < 2 ^ 28 ∧ r.num 8 4 < 2 ^ 28 ∧ r.num 12 4 < 2 ^ 28 ∧ r.num 16 4 < 2 ^ 28 then .done
                else .adjusted) (.window w) with
            heads := t.heads }
        ∧ ∀ i : Fin 8, (t.head h) = { s.head h with windows := (t.head h).windows }
          ∧ (t.head h).windows[i] = if i.val = n 2 then w else (s.head h).windows[i])

/-- TABLE_WRITE MARKER, LATENCY_CLASS and SITE_LIMITS (2.2, 3.2, 4.2): an entry is written whole; an action code that is
none of the four is answered BAD_ARGUMENT; the latency values are taken to 1 to 16,383, ADJUSTED when that changed
one. The places of the arguments are the model's reading (log entry 10). -/
def Obligations.SharedTableAndLimitWrites : Prop :=
  ∀ (s : State) (r : Request) (rest : List Request), s.ready r rest →
    let n : Nat → Nat := fun i => (r.arg i).toNat
    (r.passes .writeMarker s →
      (4 ≤ n 6 → exec .tableWriteMarker s = .next (s.answered r rest .badArgument .empty))
      ∧ ∀ act : MarkerAction, act.code = r.arg 6 →
        let m : Marker := ⟨r.flag 2, r.arg 3, r.arg 4, (r.arg 5).extractLsb' 0 4, act⟩
        ∃ t, exec .tableWriteMarker s = .next t
          ∧ t = { s.answered r rest .done (.marker m) with markers := t.markers }
          ∧ ∀ i : Fin 8, t.markers[i] = if i.val = n 1 then m else s.markers[i])
    ∧ (r.passes .writeLatencyClass s →
      let x : LatencyClass := ⟨r.flag 2, min (max (r.num 3 2) 1) 16383, min (max (r.num 5 2) 1) 16383⟩
      ∃ t, exec .tableWriteLatencyClass s = .next t
        ∧ t = { s.answered r rest
              (if x.maxRoundTrip = r.num 3 2 ∧ x.window = r.num 5 2 then .done else .adjusted)
              (.latencyClass x) with
            latency := t.latency }
        ∧ ∀ i : Fin 8, t.latency[i] = if i.val = n 1 then x else s.latency[i])
    ∧ (r.passes .writeSiteLimits s →
      let h := r.head
      ∃ t, exec .tableWriteSiteLimits s = .next t ∧ s.onlyHead t h
        ∧ t = { s.answered r rest .done (.siteLimits (r.num 3 2) (r.flag 5)) with heads := t.heads }
        ∧ t.head h = { s.head h with sites := (t.head h).sites }
        ∧ ∀ i : SiteId, (t.head h).site i
          = if i.val = n 2 then { (s.head h).site i with failLimit := r.num 3 2, logEnable := r.flag 5 }
            else (s.head h).site i)

/-! ### Segments (chapter 3) -/

/-- SET_SITES (3.2): enabled_next of all sixteen sites is written from the set named, less the sites that are not
present; the reply shows the set as written, ADJUSTED when a site was dropped. The places of the
arguments are the model's reading (log entry 10). -/
def Obligations.SetSitesStagesThePresentSites : Prop :=
  ∀ (s : State) (r : Request) (rest : List Request), s.ready r rest → r.passes .setSites s →
    let h := r.head
    let named : BitVec 16 := r.arg 1 ++ r.arg 2
    ∃ (t : State) (kept : BitVec 16), exec .setSites s = .next t ∧ s.onlyHead t h
      ∧ (∀ i : SiteId, kept.getLsbD i.val = (named.getLsbD i.val && ((s.head h).site i).present))
      ∧ t = { s.answered r rest (if kept = named then .done else .adjusted) (.siteSet kept) with heads := t.heads }
      ∧ t.head h = { s.head h with
          sites := tabulate (fun i => { (s.head h).site i with enabledNext := kept.getLsbD i.val }) }

/-- SEGMENT_OPEN (3.4): as one event, a new generation, tag counter 0, the opening values of the segment variables, the
sites enabled from enabled_next and present, their blocks below 2^BB COLLECTING and all others IDLE, an empty Fail Log,
and TESTING; the items of the head leave the Analysis Queue (7.1). -/
def Obligations.SegmentOpenPreparesTheHead : Prop :=
  ∀ (s : State) (r : Request) (rest : List Request), s.ready r rest → r.passes .segmentOpen s →
    let h := r.head
    let hd := s.head h
    let on : SiteId → Bool := fun i => (hd.site i).enabledNext && (hd.site i).present
    ∃ t, exec .segmentOpen s = .next t ∧ s.onlyHead t h
      ∧ t = { s.answered r rest .done .empty with
          heads := t.heads, analysis := s.analysis.filter (fun it => it.head != h), engine := s.engine.overtake h }
      ∧ t.head h = { hd with
          generation := hd.generation + 1, tagCounter := 0, state := .testing, capture := true, logArmed := false
          vectorIndex := 0, skipped := 0, log := [], overrun := false
          sites := tabulate (fun i => { hd.site i with
            enabled := on i, stopped := false, stopReason := .none, rawFails := 0, unmapped := false, causes := 0
            verdict := if on i then .pending else .masked })
          blocks := tabulate (fun i => tabulate (fun b =>
            if on i = true ∧ b.val < 2 ^ hd.geometry.bb then ⟨.collecting, [], [], [], 0⟩
            else ⟨.idle, [], [], [], 0⟩)) }

/-- SEGMENT_CLOSE and the end of draining (R47 to R49, 8.1): a head that is closed goes to DRAINING, and the drain
condition is tested at once. A head in DRAINING is drained when its tracking queue is empty and no item of its
generation is queued or being processed; it then queues one job for each COLLECTING block of each site that is enabled
and not stopped, by site and by block, whose block becomes QUEUED, and goes to SOLVING. Each such site without a block
in QUEUED is made final by the verdict order (R58); with no job the head goes to READY, and SEGMENT_DONE is raised
after that. The drain test of every other event, `State.testDrain`, does the same. -/
def Obligations.SegmentCloseDrainsTheHead : Prop :=
  ∀ (s : State) (h : HeadId),
    let hd := s.head h
    let live := (∃ it ∈ s.analysis, it.head = h ∧ it.generation = hd.generation)
      ∨ (∃ it o, s.engine = .item it o ∧ it.head = h ∧ it.generation = hd.generation)
    let jobs : List SolveJob := (List.finRange 16).flatMap (fun i =>
      if (hd.site i).enabled = true ∧ (hd.site i).stopped = false then
        ((List.finRange 16).filter (fun b => (hd.block i b).state == .collecting)).map
          (fun b => ⟨h, i, b, hd.generation⟩)
      else [])
    let drained : State → Prop := fun t =>
      s.onlyHead t h ∧ t.solveList = s.solveList ++ jobs
      ∧ t.head h = { hd with
        state := if jobs = [] then .ready else .solving
        events := if jobs = [] then hd.events ||| HeadEvent.segmentDone.bit else hd.events
        sites := (t.head h).sites, blocks := (t.head h).blocks }
      ∧ (∀ i b, (t.head h).block i b
        = if (⟨h, i, b, hd.generation⟩ : SolveJob) ∈ jobs then { hd.block i b with state := .queued }
          else hd.block i b)
      ∧ ∀ i,
        let st := hd.site i
        let settled := st.enabled = true ∧ st.stopped = false ∧ st.verdict.isFinal = false
          ∧ ∀ b, ((t.head h).block i b).state ≠ .queued
        (¬ settled → (t.head h).site i = st)
        ∧ (settled → (t.head h).site i = { st with verdict := ((t.head h).site i).verdict }
          ∧ ((t.head h).site i).verdict
            = if (∃ b, (hd.block i b).state = .unrepairable) ∨ st.unmapped = true ∨ st.stopReason = .failLimit
                ∨ st.stopReason = .reject then .unrepairable
              else if st.causes ≠ 0 ∨ st.stopReason = .manual then .incomplete
              else if ∃ b, (hd.block i b).state ≠ .stopped ∧ ((hd.block i b).rows ≠ [] ∨ (hd.block i b).cols ≠ []) then
                .repaired
              else .pass)
    (∀ (r : Request) (rest : List Request), s.ready r rest → r.passes .segmentClose s → r.head = h →
      ∃ t, exec .segmentClose s = .next t ∧ s.onlyHead t h ∧ t.requests = rest ∧ t.analysis = s.analysis
        ∧ (hd.tracking ≠ [] ∨ live →
          t = { s.answered r rest .done .empty with heads := t.heads } ∧ t.head h = { hd with state := .draining })
        ∧ (hd.tracking = [] → ¬ live → drained t
          ∧ t = { s with heads := t.heads, requests := rest, upstream := t.upstream, solveList := t.solveList }
          ∧ t.upstream = s.upstream ++ (if jobs = [] then s.noticesFor h .segmentDone hd (t.head h) 1 else [])
            ++ [.reply ⟨r.id, r.code, .done, .empty⟩]))
    ∧ (hd.state ≠ .draining ∨ hd.tracking ≠ [] ∨ live → s.testDrain h = s)
    ∧ (hd.state = .draining → hd.tracking = [] → ¬ live →
      let t := s.testDrain h
      drained t ∧ t = { s with heads := t.heads, upstream := t.upstream, solveList := t.solveList }
      ∧ t.upstream = s.upstream ++ (if jobs = [] then s.noticesFor h .segmentDone hd (t.head h) 0 else []))

/-- STOP_SITE (3.7): a site that is enabled and not stopped is stopped with reason MANUAL, its COLLECTING blocks turn
to STOPPED, its verdict is fixed by the verdict order, and SITE_STOPPED is raised; a stopped site is left as it is,
and a site that is not enabled is answered BAD_ARGUMENT. The places of the arguments are the model's reading (log
entry 10). -/
def Obligations.StopSiteStopsOneSite : Prop :=
  ∀ (s : State) (r : Request) (rest : List Request), s.ready r rest → r.passes .stopSite s →
    let h := r.head
    let i := r.siteAt 1
    let hd := s.head h
    let st := hd.site i
    (st.enabled = false → exec .stopSite s = .next (s.answered r rest .badArgument .empty))
    ∧ (st.enabled = true → st.stopped = true → exec .stopSite s = .next (s.answered r rest .done .empty))
    ∧ (st.enabled = true → st.stopped = false →
      ∃ t, exec .stopSite s = .next t ∧ s.onlyHead t h ∧ t.requests = rest
        ∧ t.upstream = s.upstream ++ s.noticesFor h .siteStopped hd (t.head h) 1
          ++ [.reply ⟨r.id, r.code, .done, .empty⟩]
        ∧ t = { s with heads := t.heads, requests := rest, upstream := t.upstream }
        ∧ t.head h = { hd with
            sites := (t.head h).sites, blocks := (t.head h).blocks
            events := hd.events ||| HeadEvent.siteStopped.bit }
        ∧ (∀ j, j ≠ i → (t.head h).site j = hd.site j)
        ∧ (∀ j b, (t.head h).block j b
          = if j = i ∧ (hd.block j b).state = .collecting then { hd.block j b with state := .stopped }
            else hd.block j b)
        ∧ (t.head h).site i = { st with
            stopped := true, stopReason := .manual, verdict := ((t.head h).site i).verdict }
        ∧ (st.verdict.isFinal = true → ((t.head h).site i).verdict = st.verdict)
        ∧ (st.verdict.isFinal = false → ((t.head h).site i).verdict
          = if (∃ b, (hd.block i b).state = .unrepairable) ∨ st.unmapped = true then .unrepairable
            else .incomplete))

/-! ### The Fail Log, the events and the maintenance proxy (2.10, chapter 9) -/

/-- LOG_READ (9.2; the count in one byte is the model's reading, log entry 10): the oldest entries leave the log, as
many as the count taken to 1 to 32, or all if the log holds fewer, and are returned with the overrun flag as it stood
and the number of entries left; the flag is cleared if an entry was removed, and nothing else changes, so that
LOG_OVERRUN stays as it is. -/
def Obligations.LogReadRemovesTheOldestEntries : Prop :=
  ∀ (s : State) (r : Request) (rest : List Request), s.ready r rest → r.form = .logRead → r.args.length = 2 →
    (r.arg 0).toNat < 4 →
    let h : HeadId := Fin.ofNat 4 (r.arg 0).toNat
    let hd := s.head h
    let count := min (max (r.arg 1).toNat 1) 32
    ∃ (t : State) (removed : List LogEntry), exec .logRead s = .next t ∧ s.onlyHead t h
      ∧ hd.log = removed ++ (t.head h).log ∧ removed.length = min count hd.log.length
      ∧ t = { s.answered r rest (if count = (r.arg 1).toNat then .done else .adjusted)
            (.log removed hd.overrun (hd.log.length - count)) with heads := t.heads }
      ∧ t.head h = { hd with log := (t.head h).log, overrun := if removed = [] then hd.overrun else false }

/-- EVENT_CLEAR and EVENT_MASK (9.3): the events named leave the event set, without a notice; the mask is written,
with one notice when an event that is set is newly in it. The places of the arguments are the model's reading (log
entry 10). -/
def Obligations.EventClearAndEventMask : Prop :=
  ∀ (s : State) (r : Request) (rest : List Request), s.ready r rest →
    let h := r.head
    let hd := s.head h
    (r.passes .eventClear s →
      let left := hd.events &&& ~~~ r.arg 1
      ∃ t, exec .eventClear s = .next t ∧ s.onlyHead t h
        ∧ t = { s.answered r rest .done (.events left) with heads := t.heads }
        ∧ t.head h = { hd with events := left })
    ∧ (r.passes .eventMask s →
      let notices : List UpFrame :=
        if hd.events &&& r.arg 1 &&& ~~~ hd.mask ≠ 0
            ∧ s.upstream.length + s.reservations.length + 3 ≤ 32 then
          [.notice ⟨h, hd.state, hd.events⟩]
        else []
      ∃ t, exec .eventMask s = .next t ∧ s.onlyHead t h
        ∧ t = { s with
            heads := t.heads, requests := rest
            upstream := s.upstream ++ notices ++ [.reply ⟨r.id, r.code, .done, .events (r.arg 1)⟩] }
        ∧ t.head h = { hd with mask := r.arg 1 })

/-- MAINT_ACCESS (1.6, 2.10): BUSY with the slot occupied, RETRY in TESTING or DRAINING without the intrusive flag,
and otherwise the access waits in the slot with the head's proxy timeout, without a reply, and the slot assigned to
its reply becomes the head's reservation. The places of the arguments are the model's reading (log entry 10), as is
the count of 4,000 lane quanta for a millisecond of the timeout (log entry 4). -/
def Obligations.MaintAccessIsTakenOrTurnedAway : Prop :=
  ∀ (s : State) (r : Request) (rest : List Request), s.ready r rest → r.passes .maintAccess s →
    let h := r.head
    let hd := s.head h
    let testing := hd.state = .testing ∨ hd.state = .draining
    (hd.slot ≠ none → exec .maintAccess s = .next (s.answered r rest .busy .empty))
    ∧ (hd.slot = none → testing → r.arg 10 = 0 → exec .maintAccess s = .next (s.answered r rest .retry .empty))
    ∧ (hd.slot = none → ¬ (testing ∧ r.arg 10 = 0) → h ∉ s.reservations →
      ∃ t, exec .maintAccess s = .next t ∧ s.onlyHead t h
        ∧ t = { s with heads := t.heads, requests := rest, reservations := s.reservations ++ [h] }
        ∧ t.head h = { hd with slot := some {
            origin := .mainframe r.id r.code, write := r.arg 1 != 0, address := BitVec.ofNat 24 (r.num 2 3)
            data := BitVec.ofNat 32 (r.num 5 4), enables := (r.arg 9).extractLsb' 0 4, sent := false
            timer := 4000 * hd.setup.proxyTimeout, replyWanted := true } })

/-! ### The Head Lanes (chapter 2, 4.5) -/

/-- HEAD_BURST_SEND, MAINT_SEND and PROBE_SEND (2.3, 2.10, 4.5): with the transmitter idle and the lane signal present,
the head burst at the head of the Send Queue goes first, then, with the queue empty, a waiting access, then, with the
slot empty too, the PROBE of phase HUNT, whose end starts the round-trip timer. With the transmitter busy or the signal
absent nothing is chosen. The units have the bytes of 10.4. That an access and a PROBE are sent within the step is the
model's choice (log entry 5). -/
def Obligations.LaneArbiterSendsOneUnit : Prop :=
  (∀ (s : State) (h : HeadId),
    let hd := s.head h
    (hd.transmitting = none → hd.laneSignal = true →
      (∀ b rest, hd.sendQueue = b :: rest →
        ∃ t, exec (.headBurstSend h) s = .next t ∧ s.onlyHead t h ∧ t = { s with heads := t.heads }
          ∧ t.head h = { hd with sendQueue := rest, transmitting := some b, laneOut := b.bytes })
      ∧ (∀ a, hd.sendQueue = [] → hd.slot = some a → a.sent = false →
        ∃ t, exec (.maintSend h) s = .next t ∧ s.onlyHead t h ∧ t = { s with heads := t.heads }
          ∧ t.head h = { hd with slot := some { a with sent := true }, laneOut := a.bytes })
      ∧ (hd.sendQueue = [] → hd.slot = none → hd.state = .training → hd.phase = some .hunt → hd.probeWaiting = true →
        ∃ t, exec (.probeSend h) s = .next t ∧ s.onlyHead t h ∧ t = { s with heads := t.heads }
          ∧ t.head h = { hd with probeWaiting := false, roundTripTimer := some 0, laneOut := [0x11] }))
    ∧ (hd.sendQueue ≠ [] → exec (.maintSend h) s = .next s ∧ exec (.probeSend h) s = .next s)
    ∧ (hd.transmitting ≠ none ∨ hd.laneSignal = false →
      exec (.headBurstSend h) s = .next s ∧ exec (.maintSend h) s = .next s ∧ exec (.probeSend h) s = .next s))
  ∧ let two : Nat → List Byte := fun n => [BitVec.ofNat 8 (n / 256), BitVec.ofNat 8 n]
    (∀ b : HeadBurst, b.bytes
      = [0x10, b.tag, (if b.compare then 1 else 0) + (if b.order = .colFast then 2 else 0), b.length]
        ++ two b.baseRow ++ two b.baseCol ++ two b.patternId.toNat ++ two b.sites.toNat)
    ∧ ∀ a : Access, a.bytes
      = [0x12, (if a.write then 0x80 else 0) + a.enables.setWidth 8, BitVec.ofNat 8 (a.address.toNat / 65536)]
        ++ two a.address.toNat ++ two (a.data.toNat / 65536) ++ two a.data.toNat

/-- BURST_TRANSMIT_END (4.5, 5.2): the end of a compare head burst starts the deadline of the first entry with its tag
in WAITING_SEND, RUNNING or, with the lane held, PAUSED, with the head's result window; without such an entry, and for
a drive-only head burst, whose end is not reported, no entry changes. That BURST_TRANSMIT_END ends the transmission of
a drive-only head burst too is the model's reading (log entry 6). -/
def Obligations.BurstTransmitEndStartsTheDeadline : Prop :=
  ∀ (s : State) (h : HeadId) (b : HeadBurst), (s.head h).transmitting = some b →
    let hd := s.head h
    let waits : TrackEntry → Prop := fun e => e.tag = b.tag ∧ e.deadline = .waitingSend
    ∃ t, exec (.burstTransmitEnd h) s = .next t ∧ s.onlyHead t h ∧ t = { s with heads := t.heads }
      ∧ t.head h = { hd with transmitting := none, tracking := (t.head h).tracking }
      ∧ (b.compare = false → (t.head h).tracking = hd.tracking)
      ∧ ((∀ e ∈ hd.tracking, ¬ waits e) → (t.head h).tracking = hd.tracking)
      ∧ (∀ pre e post, b.compare = true → hd.tracking = pre ++ e :: post → (∀ x ∈ pre, ¬ waits x) → waits e →
        (hd.laneHeld = true → (t.head h).tracking = pre ++ { e with deadline := .paused hd.resultWindow } :: post)
        ∧ (hd.laneHeld = false →
          (t.head h).tracking = pre ++ { e with deadline := .running hd.resultWindow } :: post))

/-- ECHO (2.3): in phase HUNT the quanta begun since the end of the probe are measured, and the first valid class
whose maximum round trip is at least that gives the class index and the result window, with the profile read placed in
the proxy slot; without such a class the head goes to OFFLINE with OUT_OF_TABLE, its measured round trip kept. An echo
later than 16,383 quanta after the end of the probe finds the timer expired: the head goes to OFFLINE with NO_ECHO,
its round trip as it was, and the echo is discarded. Outside HUNT the echo changes nothing but the time that has
passed. That one at the moment of the expiry is taken first and measures 16,383 is the model's reading (log entry 3).
That an echo comes with the quanta passed before it is the model's choice (log entry 3), that the proxy timeout counts
4,000 lane quanta for a millisecond its reading (log entry 4), and that an echo before the probe measures a free value
and goes on its choice (log entry 12). -/
def Obligations.EchoChoosesALatencyClass : Prop :=
  ∀ (s : State) (h : HeadId) (after n : Nat),
    let s' := s.elapse after
    let hd := s'.head h
    let measured := min (n + 1) 16383
    let fits : Fin 8 → Prop := fun i => s.latency[i].valid = true ∧ measured ≤ s.latency[i].maxRoundTrip
    (hd.state = .training → hd.phase = some .hunt → hd.laneSignal = true → hd.roundTripTimer = some n → n ≤ 16383 →
      (∀ i, fits i → (∀ j, j < i → ¬ fits j) →
        ∃ t, exec (.echo h after) s = .next t ∧ s'.onlyHead t h ∧ t = { s' with heads := t.heads }
          ∧ t.head h = { hd with
            roundTrip := some measured, classIndex := some i, resultWindow := s.latency[i].window
            phase := some .profile, probeWaiting := false, roundTripTimer := none
            slot := some {
              origin := .profileRead, write := false, address := 0, data := 0, enables := 0xF, sent := false
              timer := 4000 * hd.setup.proxyTimeout, replyWanted := false } })
      ∧ ((∀ i, ¬ fits i) →
        ∃ t, exec (.echo h after) s = .next t ∧ s'.onlyHead t h
          ∧ t = { s' with heads := t.heads, upstream := t.upstream }
          ∧ t.upstream = s'.upstream ++ s'.noticesFor h .offline hd (t.head h) 0
          ∧ t.head h = { hd with
            state := .offline, phase := none, reason := .outOfTable, roundTrip := some measured, fenceTimer := none
            probeWaiting := false, roundTripTimer := none, slot := none
            events := hd.events ||| HeadEvent.offline.bit }))
    ∧ (hd.state = .training → hd.phase = some .hunt → hd.laneSignal = true → hd.roundTripTimer = some n → 16383 < n →
      ∃ t, exec (.echo h after) s = .next t ∧ s'.onlyHead t h
        ∧ t = { s' with heads := t.heads, upstream := t.upstream }
        ∧ t.upstream = s'.upstream ++ s'.noticesFor h .offline hd (t.head h) 0
        ∧ t.head h = { hd with
          state := .offline, phase := none, reason := .noEcho, fenceTimer := none, probeWaiting := false
          roundTripTimer := none, slot := none, events := hd.events ||| HeadEvent.offline.bit })
    ∧ (hd.state = .training → hd.phase = some .hunt → hd.laneSignal = true → hd.roundTripTimer = none →
      ∃ t m, exec (.echo h after) s = .next t ∧ s'.onlyHead t h ∧ 1 ≤ m ∧ m ≤ 16383
        ∧ (t.head h).roundTrip = some m ∧ (t.head h).probeWaiting = false
        ∧ ((t.head h).state = .training ∧ (t.head h).phase = some .profile
          ∨ (t.head h).state = .offline ∧ (t.head h).reason = .outOfTable))
    ∧ (hd.state ≠ .training ∨ hd.phase ≠ some .hunt → exec (.echo h after) s = .next s')

/-- ROUND_TRIP_TIMEOUT and PROXY_TIMEOUT (2.3, 2.10): the end of the 16,383 quanta of phase HUNT sends the head to
OFFLINE with NO_ECHO, and the expiry of the profile read's timer with PROFILE_TIMEOUT; a mainframe access whose timer
expires is answered TIMEOUT with an empty body in place of its reservation, and leaves the slot. That the command lets
the rest of the timer pass is the model's choice (log entry 3). -/
def Obligations.TimersEndTrainingAndAccesses : Prop :=
  ∀ (s : State) (h : HeadId),
    let failed : State → Reason → Head → State → Prop := fun s' why hd t =>
      s'.onlyHead t h ∧ t = { s' with heads := t.heads, upstream := t.upstream }
      ∧ t.upstream = s'.upstream ++ s'.noticesFor h .offline hd (t.head h) 0
      ∧ t.head h = { hd with
        state := .offline, phase := none, reason := why, fenceTimer := none, probeWaiting := false
        roundTripTimer := none, slot := none, events := hd.events ||| HeadEvent.offline.bit }
    (∀ n, (s.head h).state = .training → (s.head h).phase = some .hunt → (s.head h).roundTripTimer = some n →
      let s' := s.elapse (16383 - n)
      ∃ t, exec (.roundTripTimeout h) s = .next t ∧ failed s' .noEcho (s'.head h) t)
    ∧ ∀ a, (s.head h).slot = some a →
      let s' := s.elapse a.timer
      ∃ t, exec (.proxyTimeout h) s = .next t
        ∧ (a.origin = .profileRead → failed s' .profileTimeout (s'.head h) t)
        ∧ (∀ id code, a.origin = .mainframe id code →
          s'.onlyHead t h ∧ t.head h = { s'.head h with slot := none }
          ∧ (a.replyWanted = true → h ∈ s.reservations → s.link = .inSync →
            t = { s' with
              heads := t.heads, upstream := s.upstream ++ [.reply ⟨id, code, .timeout, .empty⟩]
              reservations := s.reservations.erase h })
          ∧ (a.replyWanted = false → t = { s' with heads := t.heads }))

/-- MAINT_ANSWER (2.3, 2.10, 10.4): the answer to the profile read takes the head to CONFIG with the profile, the
present flags and TRAINED, or to OFFLINE with BAD_PROFILE when it is refused or a count is 0 or above 16; the answer
to a mainframe access whose reply is wanted is replied to with DONE or HEAD_REFUSED and the data, in place of the
reservation. An answer to nothing that was sent is discarded, and missing bytes read as 0. -/
def Obligations.MaintAnswerEndsTheAccess : Prop :=
  ∀ (s : State) (h : HeadId),
    let hd := s.head h
    (∀ body, exec (.maintAnswer h body) s = exec (.maintAnswer h (body ++ [0, 0, 0, 0, 0])) s)
    ∧ (∀ body, (∀ a, hd.slot = some a → a.sent = false) → exec (.maintAnswer h body) s = .next s)
    ∧ ∀ (a : Access) (ok d3 d2 d1 d0 : Byte) (more : List Byte), hd.slot = some a → a.sent = true →
      hd.laneSignal = true →
      let body := ok :: d3 :: d2 :: d1 :: d0 :: more
      ∃ t, exec (.maintAnswer h body) s = .next t ∧ s.onlyHead t h
        ∧ (a.origin = .profileRead →
          t = { s with heads := t.heads, upstream := t.upstream }
          ∧ (ok = 0 ∧ (1 ≤ d0.toNat ∧ d0.toNat ≤ 16) ∧ 1 ≤ d1.toNat ∧ d1.toNat ≤ 16 →
            t.upstream = s.upstream ++ s.noticesFor h .trained hd (t.head h) 0
            ∧ t.head h = { hd with
              state := .config, phase := none, slot := none, profile := some ⟨d0.toNat, d1.toNat, d3 ++ d2⟩
              events := hd.events ||| HeadEvent.trained.bit
              sites := tabulate (fun i => { hd.site i with
                present := decide (i.val < d0.toNat)
                enabledNext := (hd.site i).enabledNext && decide (i.val < d0.toNat) }) })
          ∧ (¬ (ok = 0 ∧ (1 ≤ d0.toNat ∧ d0.toNat ≤ 16) ∧ 1 ≤ d1.toNat ∧ d1.toNat ≤ 16) →
            t.upstream = s.upstream ++ s.noticesFor h .offline hd (t.head h) 0
            ∧ t.head h = { hd with
              state := .offline, phase := none, reason := .badProfile, slot := none, fenceTimer := none
              probeWaiting := false, roundTripTimer := none, events := hd.events ||| HeadEvent.offline.bit }))
        ∧ (∀ id code, a.origin = .mainframe id code →
          t.head h = { hd with slot := none }
          ∧ (a.replyWanted = true → h ∈ s.reservations → s.link = .inSync →
            t = { s with
              heads := t.heads, reservations := s.reservations.erase h
              upstream := s.upstream ++ [.reply ⟨id, code, if ok = 0 then .done else .headRefused,
                .answer (d3 ++ d2 ++ d1 ++ d0)⟩] })
          ∧ (a.replyWanted = false → t = { s with heads := t.heads }))

/-- SUPPLY_GOOD_FALL and SUPPLY_GOOD_RISE (2.6): a fall starts a fence timer of the head's fence delay in the monitored
states, and in OFFLINE and FENCED changes the level alone; a rise cancels a running timer. That the fence delay counts
128 lane quanta and its doubles is the model's reading (log entry 4). -/
def Obligations.SupplyLineStartsAndCancelsTheFenceTimer : Prop :=
  ∀ (s : State) (h : HeadId),
    let hd := s.head h
    (hd.supplyGood = true →
      ∃ t, exec (.supplyGoodFall h) s = .next t ∧ s.onlyHead t h ∧ t = { s with heads := t.heads }
        ∧ (hd.state ≠ .offline ∧ hd.state ≠ .fenced →
          t.head h = { hd with supplyGood := false, fenceTimer := some (128 * 2 ^ hd.setup.fenceCode.val) })
        ∧ (hd.state = .offline ∨ hd.state = .fenced → t.head h = { hd with supplyGood := false }))
    ∧ ∃ t, exec (.supplyGoodRise h) s = .next t ∧ s.onlyHead t h ∧ t = { s with heads := t.heads }
      ∧ t.head h = { hd with supplyGood := true, fenceTimer := none }

/-- FENCE_TIMER_EXPIRY and LANE_SIGNAL_LOSS in the monitored states (2.6, 2.7): the closing actions with the loss
cause FENCE or LANE_LOST. The generation goes up, the queues, the buffer and the timers are emptied, the head's items
and jobs are removed, a wanted access is answered ABORTED before any notice, and every enabled site that is not final
takes the cause, has its COLLECTING and QUEUED blocks STOPPED and its verdict fixed. The Fail Log (9.1), the tag
counter and the stray count (5.1) and the four segment variables (R45) stay as they are. The head is FENCED with
reason SUPPLY, or OFFLINE with LANE_LOST. That an expiry lets the rest of the timer pass is the model's choice (log
entry 3). -/
def Obligations.FenceAndLaneLossCloseTheHead : Prop :=
  ∀ (s : State) (h : HeadId), (s.head h).state ≠ .offline → (s.head h).state ≠ .fenced →
    let closed : State → Head → LossCause → HeadEvent → State → Prop := fun s' hd c e t =>
      let live : SiteId → Prop := fun i => (hd.site i).enabled = true ∧ (hd.site i).verdict.isFinal = false
      let rejected : SiteId → Prop := fun i => (∃ b, (hd.block i b).state = .unrepairable)
        ∨ (hd.site i).unmapped = true ∨ (hd.site i).stopReason = .failLimit ∨ (hd.site i).stopReason = .reject
      s'.onlyHead t h
      ∧ t = { s' with
        heads := t.heads, upstream := t.upstream, reservations := t.reservations
        analysis := s'.analysis.filter (fun it => it.head != h)
        solveList := s'.solveList.filter (fun j => j.head != h), engine := s'.engine.overtake h }
      ∧ (∃ aborted : List UpFrame,
        t.upstream = s'.upstream ++ aborted ++ s'.noticesFor h e hd (t.head h) 0
        ∧ (∀ a id code, hd.slot = some a → a.origin = .mainframe id code → a.replyWanted = true →
          h ∈ s'.reservations → s'.link = .inSync →
          aborted = [.reply ⟨id, code, .aborted, .empty⟩] ∧ t.reservations = s'.reservations.erase h)
        ∧ ((∀ a, hd.slot = some a → a.origin = .profileRead ∨ a.replyWanted = false) →
          aborted = [] ∧ t.reservations = s'.reservations))
      ∧ (t.head h).generation = hd.generation + 1 ∧ (t.head h).events = hd.events ||| e.bit
      ∧ (t.head h).phase = none ∧ (t.head h).tracking = [] ∧ (t.head h).sendQueue = [] ∧ (t.head h).laneBuffer = []
      ∧ (t.head h).laneHeld = false ∧ (t.head h).fenceTimer = none ∧ (t.head h).slot = none
      ∧ (t.head h).probeWaiting = false ∧ (t.head h).roundTripTimer = none
      ∧ (t.head h).profile = hd.profile ∧ (t.head h).classIndex = hd.classIndex
      ∧ (t.head h).roundTrip = hd.roundTrip ∧ (t.head h).resultWindow = hd.resultWindow
      ∧ (t.head h).setup = hd.setup ∧ (t.head h).mask = hd.mask ∧ (t.head h).log = hd.log
      ∧ (t.head h).overrun = hd.overrun ∧ (t.head h).geometry = hd.geometry ∧ (t.head h).windows = hd.windows
      ∧ (t.head h).transmitting = hd.transmitting ∧ (t.head h).tagCounter = hd.tagCounter
      ∧ (t.head h).strays = hd.strays ∧ (t.head h).laneOut = hd.laneOut ∧ (t.head h).capture = hd.capture
      ∧ (t.head h).logArmed = hd.logArmed ∧ (t.head h).vectorIndex = hd.vectorIndex
      ∧ (t.head h).skipped = hd.skipped
      ∧ ∀ i,
        (¬ live i → (t.head h).site i = hd.site i ∧ ∀ b, (t.head h).block i b = hd.block i b)
        ∧ (live i → (t.head h).site i
            = { hd.site i with
              causes := (hd.site i).causes ||| c.bit, verdict := ((t.head h).site i).verdict }
          ∧ (rejected i → ((t.head h).site i).verdict = .unrepairable)
          ∧ (¬ rejected i → ((t.head h).site i).verdict = .incomplete)
          ∧ ∀ b, (t.head h).block i b
            = if (hd.block i b).state = .collecting ∨ (hd.block i b).state = .queued then
                { hd.block i b with state := .stopped }
              else hd.block i b)
    (∀ n, (s.head h).fenceTimer = some n →
      ∃ t, exec (.fenceTimerExpiry h) s = .next t
        ∧ closed (s.elapse n) ((s.elapse n).head h) .fence .fenced t
        ∧ (t.head h).state = .fenced ∧ (t.head h).reason = .supply
        ∧ (t.head h).supplyGood = (s.head h).supplyGood ∧ (t.head h).laneSignal = (s.head h).laneSignal)
    ∧ ((s.head h).laneSignal = true →
      ∃ t, exec (.laneSignalLoss h) s = .next t ∧ closed s (s.head h) .laneLost .offline t
        ∧ (t.head h).state = .offline ∧ (t.head h).reason = .laneLost ∧ (t.head h).reception = none
        ∧ (t.head h).supplyGood = (s.head h).supplyGood ∧ (t.head h).laneSignal = false)

/-- LANE_SIGNAL_LOSS in OFFLINE and FENCED, LANE_SIGNAL_RETURN, and UNKNOWN_UNIT_DISCARD (2.7, 10.4): only the presence
of the signal changes, and a unit of an unknown type has no effect. Of the upstream units, type 0x20 is a result record,
0x21 ECHO and 0x22 MAINT_ANSWER, and every other type is discarded. That a unit cut off in OFFLINE or FENCED is dropped
is the model's choice (log entry 18). -/
def Obligations.QuietLaneEventsChangeThePresenceAlone : Prop :=
  ∀ (s : State) (h : HeadId),
    ((s.head h).state = .offline ∨ (s.head h).state = .fenced → (s.head h).laneSignal = true →
      (s.head h).laneBuffer = [] → (s.head h).tracking = [] → (s.head h).laneHeld = false →
      ∃ t, exec (.laneSignalLoss h) s = .next t ∧ s.onlyHead t h ∧ t = { s with heads := t.heads }
        ∧ t.head h = { s.head h with laneSignal := false, reception := none })
    ∧ (∃ t, exec (.laneSignalReturn h) s = .next t ∧ s.onlyHead t h ∧ t = { s with heads := t.heads }
      ∧ t.head h = { s.head h with laneSignal := true })
    ∧ (∀ kind body, exec (.unknownUnitDiscard h kind body) s = .next s)
    ∧ ∀ body, commandOfUnit h 0x20 body = .resultRecord h body ∧ commandOfUnit h 0x21 body = .echo h 0
      ∧ commandOfUnit h 0x22 body = .maintAnswer h body
      ∧ ∀ kind, kind ≠ 0x20 → kind ≠ 0x21 → kind ≠ 0x22 →
        commandOfUnit h kind body = .unknownUnitDiscard h kind body
        ∧ (Instr.unknownUnitDiscard h kind body).wellFormed = true
        ∧ exec (commandOfUnit h kind body) s = .next s

/-! ### The result path (2.9, chapters 3.6, 5 and 6) -/

/-- RESULT_RECORD, a record that passes (5.4, 5.5). A record of 3 or more bytes passes the framing check exactly when
it is its header, the announced sections, at most 16 and no site twice, each with its announced entries, at most 256
and of the size of the check mode, and the end mark, and it is then read as 10.5 says. The entry named by its tag
becomes ANSWERED, older unanswered entries leave with SEQUENCE and SEQUENCE_ERROR, a set overflow flag gives
HEAD_OVERFLOW and RESULT_LOSS after that, each with its notice, and the record waits in the lane buffer. With nothing
buffered before it, its leading sections without entries are passed over, and a record without entries is finished
with at once (R99): it leaves the buffer, its entry leaves the queue, and the drain condition is tested. Here no later
entry is overdue and the lane stays released. That RESULT_RECORD brings the whole unit is the model's choice (log
entry 17), and so is that a record without entries which arrives behind a record with entries left waits in the
buffer, its entry ANSWERED, where R99 says that it is finished with at once (log entry 27). -/
def Obligations.ResultRecordIsMatchedAndBuffered : Prop :=
  (∀ (mode : CheckMode) (unit : List Byte) (secs : List RecordSection), 3 ≤ unit.length →
    let isEntry : List Byte → FailEntry → Prop := fun bytes e => ∃ (offset high low : Byte) (check : List Byte),
      bytes = offset :: high :: low :: check ∧ e.offset = offset ∧ e.ioMask = high ++ low
      ∧ (mode = .none → check = [] ∧ e.checkBit = none)
      ∧ (mode ≠ .none → ∃ c, check = [c] ∧ e.checkBit = some (c.getLsbD 0))
    let isSection : List Byte → RecordSection → Prop := fun bytes sec =>
      ∃ (site high low : Byte) (entries : List (List Byte)),
        bytes = site :: high :: low :: entries.flatten ∧ sec.site.val = site.toNat % 16
        ∧ high.toNat * 256 + low.toNat = sec.entries.length ∧ sec.entries.length ≤ 256
        ∧ List.Forall₂ isEntry entries sec.entries
    readRecord mode unit = some secs ↔ ∃ (tag flags : Byte) (parts : List (List Byte)),
      unit = tag :: flags :: (parts.flatten ++ [0xA5]) ∧ flags.toNat % 32 = secs.length ∧ secs.length ≤ 16
      ∧ (secs.map RecordSection.site).Nodup ∧ List.Forall₂ isSection parts secs)
  ∧ ∀ (s : State) (h : HeadId) (tag flags : Byte) (rest : List Byte) (secs : List RecordSection)
    (answered skipped later : List TrackEntry) (e : TrackEntry),
    let hd := s.head h
    let unit := tag :: flags :: rest
    let causes : SiteId → BitVec 10 := fun i =>
      (if skipped.any (fun k => k.sites.getLsbD i.val) then LossCause.sequence.bit else 0)
        ||| (if flags.getLsbD 7 && e.sites.getLsbD i.val then LossCause.headOverflow.bit else 0)
    let buffered := hd.laneBuffer ++ [⟨tag, secs⟩]
    let left := secs.dropWhile (fun sec => sec.entries.isEmpty)
    let skips : State := { s with
      upstream := s.upstream ++ (if skipped = [] then [] else
        s.noticesFor h .sequenceError hd { hd with events := hd.events ||| HeadEvent.sequenceError.bit } 0) }
    let taken : List BufferedRecord → List TrackEntry → State → Prop := fun buffer queue t =>
      s.onlyHead t h ∧ t = { s with heads := t.heads, upstream := t.upstream }
      ∧ t.upstream = skips.upstream
        ++ (if flags.getLsbD 7 then skips.noticesFor h .resultLoss hd (t.head h) 0 else [])
      ∧ t.head h = { hd with
        reception := none, laneBuffer := buffer, tracking := queue
        events := hd.events ||| (if skipped = [] then 0 else HeadEvent.sequenceError.bit)
          ||| (if flags.getLsbD 7 then HeadEvent.resultLoss.bit else 0)
        sites := tabulate (fun i =>
          if (hd.site i).enabled = true ∧ (hd.site i).verdict.isFinal = false then
            { hd.site i with causes := (hd.site i).causes ||| causes i }
          else hd.site i) }
    hd.state = .testing ∨ hd.state = .draining → hd.laneSignal = true → hd.laneHeld = false →
    hd.reception ≠ some .discarding → rest ≠ [] → readRecord hd.setup.checkMode unit = some secs →
    hd.laneBuffer.length + 1 < 32 → (buffered.map BufferedRecord.entryCount).sum < 1024 →
    hd.tracking = answered ++ skipped ++ e :: later → (∀ k ∈ answered, k.deadline = .answered) →
    (∀ k ∈ skipped, k.deadline ≠ .answered ∧ k.tag ≠ tag) → e.deadline ≠ .answered → e.tag = tag →
    (∀ k ∈ later, k.deadline ≠ .running 0) →
    ((∃ r more, buffered = r :: more ∧ ∃ sec secs', r.sections = sec :: secs' ∧ sec.entries ≠ []) →
      ∃ t, exec (.resultRecord h unit) s = .next t
        ∧ taken buffered (answered ++ { e with deadline := .answered } :: later) t)
    ∧ (hd.laneBuffer = [] → answered = [] →
      (∀ sec ∈ secs, sec.entries = [] → e.sites.getLsbD sec.site.val = true) →
      (left ≠ [] → ∃ t, exec (.resultRecord h unit) s = .next t
        ∧ taken [⟨tag, left⟩] ({ e with deadline := .answered } :: later) t)
      ∧ (left = [] → ∃ t, exec (.resultRecord h unit) s = .next (t.testDrain h) ∧ taken [] later t))

/-- RESULT_RECORD, a record that is not taken (2.9, 5.4, 5.5, 10.5): a stray is counted and nothing else; a record of
more than 1,024 entries, one shorter than 3 bytes, and the rest of one that is being discarded leave no trace; a
record that is matched and fails its framing check retires its entry with FRAMING and RESULT_LOSS, after the older
unanswered entries, if it is matched by skip-ahead, have left with SEQUENCE and SEQUENCE_ERROR, each event with its
notice; the drain condition is tested once after all of them. Here no deadline has run out. That RESULT_RECORD brings
the whole unit is the model's choice (log entry 17). The entries that the lane counts (10.5) are the whole ones of the
mode's size within what each section header announces, and none beyond the announced sections; here they are spelled
out for any number of whole sections and what follows them. -/
def Obligations.ResultRecordIsDiscarded : Prop :=
  (∀ (mode : CheckMode) (tag flags : Byte) (parts : List (List Byte)) (tail : List Byte),
    let size := if mode = .none then 3 else 4
    let full := (parts.map (fun part => (part.length - 3) / size)).sum
    let counted := countEntries mode (tag :: flags :: (parts.flatten ++ tail))
    (∀ part ∈ parts, ∃ (site high low : Byte) (entries : List Byte), part = site :: high :: low :: entries
      ∧ entries.length = (high.toNat * 256 + low.toNat) * size) →
    (parts.length = flags.toNat % 32 → counted = full)
    ∧ (parts.length < flags.toNat % 32 →
      (tail.length < 3 → counted = full)
      ∧ ∀ (site high low : Byte) (entries : List Byte), tail = site :: high :: low :: entries →
        entries.length < (high.toNat * 256 + low.toNat) * size → counted = full + entries.length / size))
  ∧ ∀ (s : State) (h : HeadId) (unit : List Byte),
    let hd := s.head h
    let collecting := hd.state = .testing ∨ hd.state = .draining
    let entries := countEntries hd.setup.checkMode unit
    hd.CapacityInv → hd.laneSignal = true → hd.laneHeld = false →
    (∀ k ∈ hd.tracking, k.deadline ≠ .running 0) →
    (hd.reception = some .discarding ∨ entries ≤ hd.receivedEntries
      ∨ (hd.laneBuffer.length + 1 < 32 ∧ (hd.laneBuffer.map BufferedRecord.entryCount).sum + min entries 1023 < 1024)) →
    ∃ t, exec (.resultRecord h unit) s = .next t ∧ s.onlyHead t h
      ∧ (hd.reception = some .discarding ∨ unit.length < 3 ∨ 1024 < entries →
        t = { s with heads := t.heads } ∧ t.head h = { hd with reception := none })
      ∧ (hd.reception ≠ some .discarding → 3 ≤ unit.length → entries ≤ 1024 →
        (¬ collecting ∨ (∀ k ∈ hd.tracking, k.deadline ≠ .answered → k.tag ≠ byteAt unit 0) →
          t = { s with heads := t.heads }
          ∧ t.head h = { hd with reception := none, strays := min (hd.strays + 1) 65535 })
        ∧ ∀ answered skipped e later, collecting → hd.tracking = answered ++ skipped ++ e :: later →
          (∀ k ∈ answered, k.deadline = .answered) →
          (∀ k ∈ skipped, k.deadline ≠ .answered ∧ k.tag ≠ byteAt unit 0) →
          e.deadline ≠ .answered → e.tag = byteAt unit 0 → readRecord hd.setup.checkMode unit = none →
          let skips : State := { s with
            upstream := s.upstream ++ (if skipped = [] then [] else
              s.noticesFor h .sequenceError hd { hd with events := hd.events ||| HeadEvent.sequenceError.bit } 0) }
          let causes : SiteId → BitVec 10 := fun i =>
            (if skipped.any (fun k => k.sites.getLsbD i.val) then LossCause.sequence.bit else 0)
              ||| (if e.sites.getLsbD i.val then LossCause.framing.bit else 0)
          ∃ u, t = u.testDrain h ∧ (hd.state = .testing → t = u) ∧ s.onlyHead u h
            ∧ u = { s with heads := u.heads, upstream := u.upstream }
            ∧ u.upstream = skips.upstream ++ skips.noticesFor h .resultLoss hd (u.head h) 0
            ∧ u.head h = { hd with
              reception := none, tracking := answered ++ later
              events := hd.events ||| (if skipped = [] then 0 else HeadEvent.sequenceError.bit)
                ||| HeadEvent.resultLoss.bit
              sites := tabulate (fun i =>
                if (hd.site i).enabled = true ∧ (hd.site i).verdict.isFinal = false then
                  { hd.site i with causes := (hd.site i).causes ||| causes i }
                else hd.site i) })

/-- FAIL_ENTRY_ARRIVAL (2.9): an entry is counted for the record under reception, the 1,025th discards the record, and
entries of a record that is being discarded are not counted. The lane is held when the buffer then holds 32 records, or
1,024 entries of which the record under reception has not itself 1,024, and a hold pauses the running deadlines. That a
record takes its place in the buffer at its first FAIL_ENTRY_ARRIVAL is the model's choice (log entry 17). -/
def Obligations.FailEntryArrivalCountsAndHolds : Prop :=
  ∀ (s : State) (h : HeadId),
    let hd := s.head h
    let arrived : Reception := match hd.reception with
      | none => .receiving 1
      | some (.receiving n) => if n < 1024 then .receiving (n + 1) else .discarding
      | some .discarding => .discarding
    let records := hd.laneBuffer.length + (match arrived with | .receiving _ => 1 | .discarding => 0)
    let own := match arrived with | .receiving n => n | .discarding => 0
    let entries := (hd.laneBuffer.map BufferedRecord.entryCount).sum + own
    let held := 32 ≤ records ∨ (1024 ≤ entries ∧ own ≠ 1024)
    hd.laneSignal = true → hd.laneHeld = false → (∀ k ∈ hd.tracking, k.deadline ≠ .running 0) →
    ∃ t, exec (.failEntryArrival h) s = .next t ∧ s.onlyHead t h ∧ t = { s with heads := t.heads }
      ∧ (¬ held → t.head h = { hd with reception := some arrived })
      ∧ (held → t.head h = { hd with
        reception := some arrived, laneHeld := true
        tracking := hd.tracking.map (fun e =>
          { e with deadline := match e.deadline with
              | .running n => .paused n
              | d => d }) })

/-- TRACKING_EXPIRY and overdue entries (5.2): the oldest unanswered entry leaves the queue with TIMEOUT on its
snapshot sites and RESULT_LOSS, and with it each overdue entry that so becomes the oldest unanswered one, one after
another; no other entry's deadline changes but for the time that passes, and entries that are answered stay. In
DRAINING the drain condition is then tested. `State.settleDeadlines`, by which every other event lets overdue entries
expire, does the same to those at the front of the unanswered entries. That the command lets the rest of the deadline
pass is the model's choice (log entry 3), and that overdue entries expire within the same step its reading (log entry
21). -/
def Obligations.TrackingExpiryRetiresTheOldestUnanswered : Prop :=
  let retired : State → State → HeadId → List TrackEntry → List TrackEntry → Prop := fun s t h gone queue =>
    let hd := s.head h
    s.onlyHead t h ∧ t = { s with heads := t.heads, upstream := t.upstream }
    ∧ t.upstream = s.upstream ++ s.noticesFor h .resultLoss hd (t.head h) 0
    ∧ t.head h = { hd with
      tracking := queue
      events := hd.events ||| HeadEvent.resultLoss.bit
      sites := tabulate (fun i =>
        if gone.any (fun e => e.sites.getLsbD i.val) = true ∧ (hd.site i).enabled = true
            ∧ (hd.site i).verdict.isFinal = false then
          { hd.site i with causes := (hd.site i).causes ||| LossCause.timeout.bit }
        else hd.site i) }
  (∀ (s : State) (h : HeadId) (answered overdue rest : List TrackEntry),
    (s.head h).tracking = answered ++ overdue ++ rest → (∀ k ∈ answered, k.deadline = .answered) →
    (∀ k ∈ overdue, k.deadline = .running 0) →
    (∀ pre k more, rest = pre ++ k :: more → (∀ x ∈ pre, x.deadline = .answered) → k.deadline ≠ .running 0) →
    (overdue = [] → s.settleDeadlines h = s)
    ∧ (overdue ≠ [] → ∃ t, s.settleDeadlines h = t.testDrain h ∧ retired s t h overdue (answered ++ rest)))
  ∧ ∀ (s : State) (h : HeadId) (answered overdue rest : List TrackEntry) (e : TrackEntry) (n : Nat),
    (s.head h).state = .testing ∨ (s.head h).state = .draining →
    (s.head h).tracking = answered ++ e :: (overdue ++ rest) →
    (∀ k ∈ answered, k.deadline = .answered) → e.deadline = .running n →
    (∀ k ∈ overdue, ∃ q, k.deadline = .running q ∧ q ≤ n) →
    (∀ pre k more, rest = pre ++ k :: more → (∀ x ∈ pre, x.deadline = .answered) →
      ∀ q, k.deadline = .running q → n < q) →
    ∃ t, exec (.trackingExpiry h) s = .next (t.testDrain h)
      ∧ ((s.head h).state = .testing → exec (.trackingExpiry h) s = .next t)
      ∧ exec (.trackingExpiry h) s = .next ((s.elapse n).settleDeadlines h)
      ∧ retired (s.elapse n) t h (e :: overdue) (answered ++ rest.map (fun k =>
          { k with deadline := match k.deadline with
              | .running q => .running (q - n)
              | d => d }))

/-- FAIL_ENTRY_ADMIT (3.6, 5.6): the front fail entry of the lane buffer, against the first ANSWERED entry. A section
for a site outside the snapshot is discarded whole as a stray; an entry that fails the entry check or whose offset
lies outside the burst is discarded with CHECK and RESULT_LOSS (in EVEN and in ODD the ones among offset, IO mask and
check bit are even and odd; ZERO and NONE test nothing); an entry without room waits; the fails of a stopped site are
discarded uncounted; of an enabled site without a fail limit every mapped fail is counted and joins the Analysis Queue
in ascending order of IO bit; and in every case the fails of an admitted entry go through the intake gate one after
another. With its last entry a record is finished with (R99): it leaves the buffer, its tracking entry leaves the
queue, and the drain condition is tested. A lane that is held is released when what is left, with the record under
reception, calls for no hold, and its PAUSED deadlines then run on (R35, R82, R98); overdue entries that may then
expire do, by `State.settleDeadlines`. Here the buffer's next record, if there is one, begins with an entry. That one
command discards a whole stray section is the model's choice (log entry 16). -/
def Obligations.FailEntryAdmitTakesInOneEntry : Prop :=
  ∀ (s : State) (h : HeadId) (tag : Byte) (i : SiteId) (e : FailEntry) (es : List FailEntry)
    (secs : List RecordSection) (buf : List BufferedRecord) (te : TrackEntry) (others : List TrackEntry),
    let hd := s.head h
    let fails := failsOf hd te e
    let ones := (List.range 8).countP (fun k => e.offset.getLsbD k) + (List.range 16).countP (fun k => e.ioMask.getLsbD k)
      + (if e.checkBit = some true then 1 else 0)
    let passes : Prop := (hd.setup.checkMode = .even → ones % 2 = 0) ∧ (hd.setup.checkMode = .odd → ones % 2 = 1)
    let unread : List RecordSection := if es = [] then secs else ⟨i, es⟩ :: secs
    let buffer : List RecordSection → List BufferedRecord := fun l => if l = [] then buf else ⟨tag, l⟩ :: buf
    let (arriving, own) : Nat × Nat := match hd.reception with
      | some (.receiving n) => (1, n)
      | _ => (0, 0)
    let held : List RecordSection → Bool := fun l => decide (32 ≤ (buffer l).length + arriving
      ∨ (1024 ≤ ((buffer l).map BufferedRecord.entryCount).sum + own ∧ own ≠ 1024))
    let left : List RecordSection → Head → Head := fun l x =>
      let queue := if l = [] then others else hd.tracking
      { x with
        laneBuffer := buffer l, laneHeld := held l
        tracking := if hd.laneHeld = true ∧ held l = false then
            queue.map (fun k => { k with deadline := match k.deadline with
              | .paused n => .running n
              | d => d })
          else queue }
    let ends : List RecordSection → State → Prop := fun l t =>
      let finished := if l = [] then t.testDrain h else t
      exec (.failEntryAdmit h) s = .next (finished.settleDeadlines h)
      ∧ ((∀ k ∈ hd.tracking, k.deadline ≠ .running 0 ∧ k.deadline ≠ .paused 0) →
        exec (.failEntryAdmit h) s = .next finished)
    let waits : List RecordSection → Prop := fun l =>
      ∀ r more, buffer l = r :: more → ∃ sec secs', r.sections = sec :: secs' ∧ sec.entries ≠ []
    hd.laneBuffer = ⟨tag, ⟨i, e :: es⟩ :: secs⟩ :: buf → hd.tracking = te :: others → te.deadline = .answered →
    hd.CapacityInv →
    (te.sites.getLsbD i.val = false → waits secs →
      ∃ t, ends secs t ∧ s.onlyHead t h ∧ t = { s with heads := t.heads }
        ∧ t.head h = { left secs hd with strays := min (hd.strays + 1) 65535 })
    ∧ (te.sites.getLsbD i.val = true →
      (waits unread → ¬ passes ∨ te.vectors ≤ e.offset.toNat →
        ∃ t, ends unread t ∧ s.onlyHead t h ∧ t = { s with heads := t.heads, upstream := t.upstream }
          ∧ t.upstream = s.upstream ++ s.noticesFor h .resultLoss hd (t.head h) 0
          ∧ t.head h = { left unread hd with
            events := hd.events ||| HeadEvent.resultLoss.bit
            sites := tabulate (fun j =>
              if j = i ∧ (hd.site j).enabled = true ∧ (hd.site j).verdict.isFinal = false then
                { hd.site j with causes := (hd.site j).causes ||| LossCause.check.bit }
              else hd.site j) })
      ∧ (passes → e.offset.toNat < te.vectors →
        (512 - s.analysis.length < fails.countP Fail.isMapped → exec (.failEntryAdmit h) s = .next s)
        ∧ (fails.countP Fail.isMapped ≤ 512 - s.analysis.length → waits unread →
          ends unread ((fails.foldl (State.gate h i te.logArmed)
            (s.updHead h (fun x => { x with laneBuffer := ⟨tag, ⟨i, es⟩ :: secs⟩ :: buf }))).updHead h (left unread))
          ∧ ((hd.site i).stopped = true →
            ∃ t, ends unread t ∧ s.onlyHead t h ∧ t = { s with heads := t.heads } ∧ t.head h = left unread hd)
          ∧ ((hd.site i).stopped = false → (hd.site i).failLimit = 0 → (∀ f ∈ fails, f.isMapped = true) →
            ∃ t items, ends unread t ∧ s.onlyHead t h
              ∧ t = { s with heads := t.heads, analysis := s.analysis ++ items }
              ∧ items = fails.filterMap (fun f => match f with
                | .mapped b row col v => some ⟨h, i, b, row, col, v, hd.generation, te.logArmed⟩
                | .unmapped _ _ => none)
              ∧ t.head h = { left unread hd with
                sites := tabulate (fun j =>
                  if j = i then
                    { hd.site j with rawFails := min ((hd.site j).rawFails + fails.length) 65535 }
                  else hd.site j) }))))

/-- The intake gate (3.6, 3.7, 9.1), for one fail of a site: a stopped site's fail is discarded uncounted; else it is
counted, and the fail that brings the count to a set limit stops the site with FAIL_LIMIT and joins no queue; else a
mapped fail joins the Analysis Queue with the head's generation, and an unmapped one sets the site's flag and, under
STOP_ON_REJECT, stops the site with REJECT. A stop turns the site's COLLECTING blocks to STOPPED, makes the site
UNREPAIRABLE unless it is final, and raises SITE_STOPPED with its notice. When logging applies (R148), an unmapped
fail hands an UNMAPPED entry to the Fail Log before any stop: it joins the tail, or, with 256 entries in the log, is
dropped with the overrun flag set and LOG_OVERRUN raised. Nothing else changes. Here the site is enabled. -/
def Obligations.GateCountsStopsAndQueues : Prop :=
  ∀ (s : State) (h : HeadId) (i : SiteId) (logFlag : Bool) (f : Fail),
    let hd := s.head h
    let st := hd.site i
    let t := State.gate h i logFlag s f
    let counted := min (st.rawFails + 1) 65535
    let limit : Bool := st.failLimit != 0 && counted == st.failLimit
    let stops : Bool := limit || (!f.isMapped && hd.setup.stopPolicy == .stopOnReject)
    let logs : Bool := !f.isMapped && st.logEnable
      && (hd.setup.logMode == .always || hd.setup.logMode == .onTrigger && logFlag)
    let drops : Bool := logs && decide (256 ≤ hd.log.length)
    let overran : Head := { hd with events := hd.events ||| HeadEvent.logOverrun.bit }
    let logged : State := { s with
      upstream := s.upstream ++ (if drops then s.noticesFor h .logOverrun hd overran 0 else []) }
    (st.stopped = true → t = s)
    ∧ (st.stopped = false → st.enabled = true →
      s.onlyHead t h ∧ t = { s with heads := t.heads, upstream := t.upstream, analysis := t.analysis }
      ∧ t.upstream = logged.upstream ++ (if stops then logged.noticesFor h .siteStopped hd (t.head h) 0 else [])
      ∧ t.analysis = s.analysis ++ (match f with
        | .mapped b row col v => if limit then [] else [⟨h, i, b, row, col, v, hd.generation, logFlag⟩]
        | .unmapped _ _ => [])
      ∧ t.head h = { hd with
        sites := (t.head h).sites, blocks := (t.head h).blocks
        log := hd.log ++ (match f with
          | .mapped _ _ _ _ => []
          | .unmapped word v => if logs = true ∧ drops = false then [⟨.unmapped, i, none, none, none, some word, v⟩] else [])
        overrun := hd.overrun || drops
        events := hd.events ||| (if drops then HeadEvent.logOverrun.bit else 0)
          ||| (if stops then HeadEvent.siteStopped.bit else 0) }
      ∧ (∀ j, j ≠ i → (t.head h).site j = hd.site j)
      ∧ (t.head h).site i = { st with
        rawFails := counted, unmapped := st.unmapped || !f.isMapped, stopped := stops
        stopReason := if limit then .failLimit else if stops then .reject else st.stopReason
        verdict := if stops = true ∧ st.verdict.isFinal = false then .unrepairable else st.verdict }
      ∧ ∀ j b, (t.head h).block j b
        = if stops = true ∧ j = i ∧ (hd.block j b).state = .collecting then { hd.block j b with state := .stopped }
          else hd.block j b)

/-! ### Repair analysis (chapters 7 and 8) -/

/-- The engine arbiter (R116): with the engine idle, a job is taken when no item waits or when 8 items have been
counted, and otherwise an item; the engine takes nothing while it is busy. An item taken raises the count up to 8,
whether it is processed or dropped (R117), and a job returns it to 0. The end of a dropped item of its head's
generation is followed by the drain test. The count is 0 at power-on and at DEVICE_RESET, and no other command changes
it. That a job's result is computed at its take is the model's reading (log entry 22). -/
def Obligations.ArbiterChoosesByTheCount : Prop :=
  ∀ s : State,
    let itemTurn := s.engine = .idle ∧ s.analysis ≠ [] ∧ (s.solveList = [] ∨ s.arbiterCount < 8)
    let jobTurn := s.engine = .idle ∧ s.solveList ≠ [] ∧ (s.analysis = [] ∨ 8 ≤ s.arbiterCount)
    (∀ it rest, s.analysis = it :: rest → itemTurn →
      ∃ t, exec .itemTake s = .next t ∧ t.analysis = rest ∧ t.arbiterCount = min (s.arbiterCount + 1) 8
        ∧ let hd := s.head it.head
          let passes := it.generation = hd.generation ∧ (hd.site it.site).stopped = false
            ∧ (hd.block it.site it.block).state = .collecting
          (passes → t = { s with
            analysis := rest, arbiterCount := min (s.arbiterCount + 1) 8, engine := .item it false })
          ∧ (¬ passes → t.engine = .idle ∧ s.onlyHead t it.head
            ∧ (it.generation = hd.generation →
              t = ({ s with analysis := rest, arbiterCount := min (s.arbiterCount + 1) 8 }).testDrain it.head)
            ∧ (hd.state ≠ .draining ∨ it.generation ≠ hd.generation →
              t = { s with analysis := rest, arbiterCount := min (s.arbiterCount + 1) 8 })))
    ∧ (¬ itemTurn → exec .itemTake s = .next s)
    ∧ (∀ j rest, s.solveList = j :: rest → jobTurn →
      exec .solveJobTake s = .next { s with
        solveList := rest, arbiterCount := 0
        engine := .job j (solve (s.head j.head).geometry ((s.head j.head).block j.site j.block)) false })
    ∧ (¬ jobTurn → exec .solveJobTake s = .next s)
    ∧ State.reset.arbiterCount = 0
    ∧ (∀ t, exec .powerOn s = .next t → t.arbiterCount = 0)
    ∧ (∀ r rest, s.ready r rest → r.passes .deviceReset s → ∀ t, exec .deviceReset s = .next t → t.arbiterCount = 0)
    ∧ ∀ (c : Instr) (t : State), c ≠ .itemTake → c ≠ .solveJobTake → c ≠ .powerOn → c ≠ .deviceReset →
      exec c s = .next t → t.arbiterCount = s.arbiterCount

/-- ITEM_COMPLETION (7.2, 7.4, 7.5, 9.1): the engine becomes idle. An item whose head's generation has gone up since
the take, or that fails the dequeue check now, changes nothing. A covered item raises the covered-hit count, a
duplicate the hits of its entry, and any other item is appended to the fail list and put through the must-repair
analysis: its own row is tested, then its own column line (R127); if one was committed, then again and again the first
entry in list order with a must line gives that line, its row before its column line (R128); a must line is committed
while a spare of its kind is left, and else the block becomes UNREPAIRABLE (R126); at the end a list longer than twice
the product of the spares left makes it UNREPAIRABLE too (R129). When logging applies (R148) its log entries (R131:
FIRST_FAIL, then ROW_REPAIR or COL_REPAIR for each line committed, in order, then BLOCK_REJECT if the block became
UNREPAIRABLE) join the tail of the Fail Log in order, as many as find room, and the rest is dropped with the overrun
flag set and LOG_OVERRUN raised. A block that became UNREPAIRABLE then stops its site with REJECT under
STOP_ON_REJECT: its COLLECTING blocks turn to STOPPED, its verdict is fixed, and SITE_STOPPED is raised. The end of an
item of the head's generation is followed by the drain test. That an overtaken item is known by a flag, and one of an
older generation by its number, is the model's reading (log entry 22). -/
def Obligations.ItemCompletionActsOnTheBlock : Prop :=
  ∀ (s : State) (it : FailItem) (overtaken : Bool), s.engine = .item it overtaken →
    let h := it.head
    let hd := s.head h
    let st := hd.site it.site
    let b := hd.block it.site it.block
    let passes := overtaken = false ∧ it.generation = hd.generation ∧ st.stopped = false ∧ b.state = .collecting
    let applies := st.logEnable = true
      ∧ (hd.setup.logMode = .always ∨ (hd.setup.logMode = .onTrigger ∧ it.logFlag = true))
    let logs : List LogEntry := if applies then (processItem hd.geometry b it).2 else []
    let drops : Bool := decide (256 - hd.log.length < logs.length)
    ∃ t, exec .itemCompletion s = .next (if it.generation = hd.generation then t.testDrain h else t)
      ∧ (hd.state ≠ .draining → exec .itemCompletion s = .next t)
      ∧ (¬ passes → t = { s with engine := .idle })
      ∧ (passes → s.onlyHead t h ∧ t = { s with heads := t.heads, engine := .idle, upstream := t.upstream }
        ∧ let after := (t.head h).block it.site it.block
          let stops : Bool := decide (after.state = .unrepairable) && hd.setup.stopPolicy == .stopOnReject
            && (hd.state == .testing || hd.state == .draining) && st.enabled
          let overran : Head := { hd with events := hd.events ||| HeadEvent.logOverrun.bit }
          let logged : State := { s with
            upstream := s.upstream ++ (if drops then s.noticesFor h .logOverrun hd overran 0 else []) }
          t.upstream = logged.upstream ++ (if stops then logged.noticesFor h .siteStopped hd (t.head h) 0 else [])
          ∧ t.head h = { hd with
            blocks := (t.head h).blocks, sites := (t.head h).sites
            log := hd.log ++ logs.take (256 - hd.log.length), overrun := hd.overrun || drops
            events := hd.events ||| (if drops then HeadEvent.logOverrun.bit else 0)
              ||| (if stops then HeadEvent.siteStopped.bit else 0) }
          ∧ (∀ i, i ≠ it.site → (t.head h).site i = hd.site i)
          ∧ (stops = false → (t.head h).site it.site = st)
          ∧ (stops = true → (t.head h).site it.site = { st with
            stopped := true, stopReason := .reject
            verdict := if st.verdict.isFinal then st.verdict else .unrepairable })
          ∧ (∀ i c, i ≠ it.site ∨ c ≠ it.block → (t.head h).block i c
            = if stops = true ∧ i = it.site ∧ (hd.block i c).state = .collecting then
                { hd.block i c with state := .stopped }
              else hd.block i c)
          ∧ (it.row ∈ b.rows ∨ it.col ∈ b.cols →
            after = { b with coveredHits := min (b.coveredHits + 1) 65535 } ∧ logs = [])
          ∧ (it.row ∉ b.rows → it.col ∉ b.cols → (∃ e ∈ b.fails, e.row = it.row ∧ e.col = it.col) →
            after = { b with fails := b.fails.map (fun e =>
              if e.row = it.row ∧ e.col = it.col then { e with hits := min (e.hits + 1) 255 } else e) } ∧ logs = [])
          ∧ (it.row ∉ b.rows → it.col ∉ b.cols → (∀ e ∈ b.fails, ¬ (e.row = it.row ∧ e.col = it.col)) →
            let g := hd.geometry
            let rowsLeft : Block → Nat := fun x => g.sr - x.rows.length
            let colsLeft : Block → Nat := fun x => g.sc - x.cols.length
            let must : Block → Line → Prop := fun x l => match l with
              | .row r => colsLeft x < x.fails.countP (fun e => e.row == r)
              | .col c => rowsLeft x < x.fails.countP (fun e => e.col == c)
            let spare : Block → Line → Prop := fun x l => match l with
              | .row _ => x.rows.length < g.sr
              | .col _ => x.cols.length < g.sc
            let commit : Block → Line → Block := fun x l => match l with
              | .row r => { x with rows := x.rows ++ [r], fails := x.fails.filter (fun e => e.row != r) }
              | .col c => { x with cols := x.cols ++ [c], fails := x.fails.filter (fun e => e.col != c) }
            let reject : Block → Block := fun x => { x with state := .unrepairable }
            let bounded : Block → Block := fun x =>
              if 2 * rowsLeft x * colsLeft x < x.fails.length then reject x else x
            let firstMust : Block → Line → Prop := fun x l => ∃ pre e post, x.fails = pre ++ e :: post
              ∧ (∀ k ∈ pre, ¬ must x (.row k.row) ∧ ¬ must x (.col k.col))
              ∧ (l = .row e.row ∨ l = .col e.col ∧ ¬ must x (.row e.row)) ∧ must x l
            let b0 : Block := { b with fails := b.fails ++ [⟨it.row, it.col, 1, it.vectorIndex⟩] }
            let analysed : List Line → Block → Prop := fun lines final =>
              (must b0 (.row it.row) → ¬ spare b0 (.row it.row) → lines = [] ∧ final = reject b0)
              ∧ ∀ own1, (must b0 (.row it.row) → spare b0 (.row it.row) ∧ own1 = [.row it.row]) →
                (¬ must b0 (.row it.row) → own1 = []) →
                let b1 := own1.foldl commit b0
                (must b1 (.col it.col) → ¬ spare b1 (.col it.col) → lines = own1 ∧ final = reject b1)
                ∧ ∀ own, (must b1 (.col it.col) → spare b1 (.col it.col) ∧ own = own1 ++ [.col it.col]) →
                  (¬ must b1 (.col it.col) → own = own1) →
                  let b2 := own.foldl commit b0
                  (own = [] → lines = [] ∧ final = bounded b0)
                  ∧ (own ≠ [] → ∃ more, lines = own ++ more
                    ∧ (∀ pre l post, more = pre ++ l :: post →
                      firstMust (pre.foldl commit b2) l ∧ spare (pre.foldl commit b2) l)
                    ∧ let b3 := more.foldl commit b2
                      ((∀ l, ¬ firstMust b3 l) ∧ final = bounded b3)
                        ∨ ∃ l, firstMust b3 l ∧ ¬ spare b3 l ∧ final = reject b3)
            let entry : LogKind → Option Nat → Option Nat → LogEntry := fun kind row col =>
              ⟨kind, it.site, some it.block, row, col, none, it.vectorIndex⟩
            ∃ lines, analysed lines after ∧ (after.state = .collecting ∨ after.state = .unrepairable)
            ∧ after.rows = b.rows ++ lines.filterMap (fun l => match l with
              | .row r => some r
              | .col _ => none)
            ∧ after.cols = b.cols ++ lines.filterMap (fun l => match l with
              | .row _ => none
              | .col c => some c)
            ∧ (applies → logs = [entry .firstFail (some it.row) (some it.col)]
              ++ lines.map (fun l => match l with
                | .row r => entry .rowRepair (some r) none
                | .col c => entry .colRepair none (some c))
              ++ (if after.state = .unrepairable then [entry .blockReject (some it.row) (some it.col)] else []))))

/-- SOLVE_JOB_COMPLETION (8.2, 8.3): the engine becomes idle. A job whose generation, head or block has moved on
changes nothing. Otherwise its block becomes SOLVED with the lines found, or UNREPAIRABLE as it stands; its site is
made final when none of its blocks is left in QUEUED; and with no further job of the head in the Solve List the head
returns to READY and SEGMENT_DONE is raised. That an overtaken job is known by a flag, and that its result was
computed at the take, is the model's reading (log entry 22). -/
def Obligations.SolveJobCompletionSettlesTheBlock : Prop :=
  ∀ (s : State) (j : SolveJob) (found : Option Solution) (overtaken : Bool), s.engine = .job j found overtaken →
    let h := j.head
    let hd := s.head h
    let b := hd.block j.site j.block
    let passes := overtaken = false ∧ j.generation = hd.generation ∧ b.state = .queued
    let last := ∀ k ∈ s.solveList, k.head ≠ h
    let left := ∃ c, c ≠ j.block ∧ (hd.block j.site c).state = .queued
    ∃ t, exec .solveJobCompletion s = .next t
      ∧ (¬ passes → t = { s with engine := .idle })
      ∧ (passes → s.onlyHead t h ∧ t = { s with heads := t.heads, engine := .idle, upstream := t.upstream }
        ∧ t.upstream = s.upstream ++ (if last then s.noticesFor h .segmentDone hd (t.head h) 0 else [])
        ∧ t.head h = { hd with
          state := if last then .ready else hd.state
          events := if last then hd.events ||| HeadEvent.segmentDone.bit else hd.events
          blocks := (t.head h).blocks, sites := (t.head h).sites }
        ∧ (∀ i c, i ≠ j.site ∨ c ≠ j.block → (t.head h).block i c = hd.block i c)
        ∧ (t.head h).block j.site j.block = (match found with
          | some x => { b with state := .solved, rows := b.rows ++ x.rows, cols := b.cols ++ x.cols, fails := [] }
          | none => { b with state := .unrepairable })
        ∧ (∀ i, i ≠ j.site → (t.head h).site i = hd.site i)
        ∧ (left → (t.head h).site j.site = hd.site j.site)
        ∧ (¬ left → (hd.site j.site).verdict.isFinal = false →
          (t.head h).site j.site = { hd.site j.site with
            verdict := verdictOf (hd.site j.site) (t.head h).blocks[j.site] }))

/-- The must-repair analysis keeps a block in COLLECTING at rest (7.3, 7.4): after any fail item, the block is
UNREPAIRABLE with its lists still sound, or it is COLLECTING with every row and column count and the length of its
list within the bounds of the spares that are left; lines once committed stay committed, and the fail list holds at
most 33 entries. Every step keeps every Block Record of every head sound for the head's geometry and every block in
COLLECTING at rest, with a running job's result that of its block. -/
def Obligations.ItemProcessingKeepsTheBlockAtRest : Prop :=
  (∀ (g : Geometry) (b : Block) (it : FailItem), g.sr ≤ 4 → g.sc ≤ 4 → b.state = .collecting → b.AtRest g →
    let b' := (processItem g b it).1
    b'.Sound g ∧ b'.fails.length ≤ 33 ∧ b.rows <+: b'.rows ∧ b.cols <+: b'.cols
    ∧ (b'.state = .unrepairable ∨ (b'.state = .collecting ∧ b'.AtRest g)))
  ∧ ∀ s t : State, s.LifeInv → s.BlockInv → step s = .next t → t.BlockInv

/-- A rejection by the must-repair analysis is right (7.4): when an item makes a block at rest UNREPAIRABLE, no choice
of the spares that were left before the item covers the fail list together with the item's cell. -/
def Obligations.RejectedBlocksHaveNoRepair : Prop :=
  ∀ (g : Geometry) (b : Block) (it : FailItem), b.state = .collecting → b.AtRest g →
    (processItem g b it).1.state = .unrepairable →
    ¬ b.repairable g (b.fails ++ [⟨it.row, it.col, 1, it.vectorIndex⟩])

/-- The solve search (8.2) answers exactly when a repair exists: a solution covers the whole fail list within the
spares that are left, with distinct lines that none of the block's committed lines repeats and with no column line
without a fail off the chosen rows; no smaller number of rows allows a repair; and no solution means that no repair
exists. The rows are rows of the fail list in the order in which each first appears, and of the choices of that size
that allow a repair theirs comes first in lexicographic order of the places of first appearance, which is that of the
indices; the columns stand in the order in which each first appears off the chosen rows. -/
def Obligations.SolveFindsARepairExactlyWhenOneExists : Prop :=
  ∀ (g : Geometry) (b : Block), b.Sound g →
    ((solve g b).isSome = true ↔ b.repairable g b.fails)
    ∧ ∀ x, solve g b = some x →
      coversAll x.rows x.cols b.fails ∧ (b.rows ++ x.rows).length ≤ g.sr ∧ (b.cols ++ x.cols).length ≤ g.sc
      ∧ (b.rows ++ x.rows).Nodup ∧ (b.cols ++ x.cols).Nodup
      ∧ (∀ c ∈ x.cols, ∃ e ∈ b.fails, e.col = c ∧ e.row ∉ x.rows)
      ∧ (∀ rows cols, rows.length < x.rows.length → cols.length ≤ b.colsLeft g → ¬ coversAll rows cols b.fails)
      ∧ let place : Nat → Nat := fun r => (b.fails.map (fun e => e.row)).idxOf r
        let choice : List Nat → Prop := fun rows =>
          (∀ r ∈ rows, ∃ e ∈ b.fails, e.row = r) ∧ rows.Pairwise (fun r r' => place r < place r')
        let left := (b.fails.filter (fun e => !x.rows.contains e.row)).map (fun e => e.col)
        choice x.rows
        ∧ (∀ rows cols, choice rows → rows.length = x.rows.length → cols.length ≤ b.colsLeft g →
          coversAll rows cols b.fails → rows = x.rows ∨ List.Lex (· < ·) (x.rows.map place) (rows.map place))
        ∧ x.cols.Pairwise (fun c c' => left.idxOf c < left.idxOf c')

/-- Fail address reconstruction (R105 to R109, and 6.5 and 6.6): for a geometry that the part accepts and bases within
its widths, an offset is expanded in column-fast and in row-fast order by the rules' steps, and crosses at most one row
boundary with 8 or more column bits; the logical word is row times 2^CB plus column, below 2^(RB+CB) and so below 2^28.
The first enabled window that matches it decides for the whole entry: the substituted word, cut to RB+CB bits, is split
into the block, the row-in-block and the column lines, one for each bit of the mask that is set below IOC, in ascending
order; without such a window each such bit makes an unmapped fail. Every mapped fail of an entry lies in a block below
2^BB, in a row below 2^(RB-BB) and on a column line below 2^CB times IOC; all fails of an entry share the start vector
index plus the offset, modulo 2^32. -/
def Obligations.FailAddressesStayInRange : Prop :=
  ∀ (hd : Head) (te : TrackEntry) (e : FailEntry),
    let g := hd.geometry
    let k := e.offset.toNat
    let at_ := expand g te.order te.baseRow te.baseCol k
    let l := logicalWord g at_
    let index := te.startIndex + BitVec.ofNat 32 k
    let bits := (List.range g.ioc).filter (fun i => e.ioMask.getLsbD i)
    let hits : Fin 8 → Prop := fun i => hd.windows[i].enabled = true
      ∧ (l &&& hd.windows[i].matchMask) = (hd.windows[i].matchBase &&& hd.windows[i].matchMask)
    1 ≤ g.rb ∧ g.rb ≤ 16 ∧ 1 ≤ g.cb ∧ g.cb ≤ 12 ∧ g.bb ≤ 4 ∧ g.bb < g.rb ∧ 1 ≤ g.ioc ∧ g.ioc ≤ 16 →
    te.baseRow < 2 ^ g.rb → te.baseCol < 2 ^ g.cb →
    (te.order = .colFast →
      at_ = ((te.baseRow + (te.baseCol + k) / 2 ^ g.cb) % 2 ^ g.rb, (te.baseCol + k) % 2 ^ g.cb)
      ∧ te.baseCol + k ≤ 2 ^ g.cb + 254 ∧ (8 ≤ g.cb → (te.baseCol + k) / 2 ^ g.cb ≤ 1)
      ∧ (g.cb = 2 → te.baseCol = 0 → k = 200 → at_.1 = (te.baseRow + 50) % 2 ^ g.rb))
    ∧ (te.order = .rowFast →
      at_ = ((te.baseRow + k) % 2 ^ g.rb, (te.baseCol + (te.baseRow + k) / 2 ^ g.rb) % 2 ^ g.cb))
    ∧ (logicalWord g at_).toNat = at_.1 * 2 ^ g.cb + at_.2
    ∧ at_.1 * 2 ^ g.cb + at_.2 < 2 ^ (g.rb + g.cb) ∧ 2 ^ (g.rb + g.cb) ≤ 2 ^ 28
    ∧ ((∀ i, ¬ hits i) → failsOf hd te e = bits.map (fun _ => Fail.unmapped l index))
    ∧ (∀ i, hits i → (∀ j, j < i → ¬ hits j) →
      let w := hd.windows[i]
      let p := ((l &&& ~~~ w.substMask) ||| (w.substValue &&& w.substMask)).toNat % 2 ^ (g.rb + g.cb)
      let row := p / 2 ^ g.cb
      p < 2 ^ (g.rb + g.cb) ∧ row / 2 ^ (g.rb - g.bb) < 2 ^ g.bb
      ∧ ∀ b : BlockId, b.val = row / 2 ^ (g.rb - g.bb) →
        failsOf hd te e
          = bits.map (fun i => Fail.mapped b (row % 2 ^ (g.rb - g.bb)) (p % 2 ^ g.cb * g.ioc + i) index))
    ∧ (failsOf hd te e).length = (List.range g.ioc).countP (fun i => e.ioMask.getLsbD i)
    ∧ ((∀ f ∈ failsOf hd te e, f.isMapped = true) ∨ ∀ f ∈ failsOf hd te e, f.isMapped = false)
    ∧ (∀ b row col v, Fail.mapped b row col v ∈ failsOf hd te e →
      b.val < 2 ^ g.bb ∧ row < 2 ^ (g.rb - g.bb) ∧ col < 2 ^ g.cb * g.ioc
      ∧ v.toNat = (te.startIndex.toNat + k) % 2 ^ 32)
    ∧ ∀ word v, Fail.unmapped word v ∈ failsOf hd te e →
      word = logicalWord g at_ ∧ v.toNat = (te.startIndex.toNat + k) % 2 ^ 32

/-! ### Head events (9.3) -/

/-- The raising of an event (9.3, 1.6): an event that is set already changes nothing; another joins the head's event
set, and, if it is masked in, one NOTICE with the head's state and its whole event set joins the Upstream Queue when
the link is in synchronisation and at least two slots are free. Nothing else changes. -/
def Obligations.RaisedEventJoinsTheSetAndMayMakeANotice : Prop :=
  ∀ (s : State) (h : HeadId) (e : HeadEvent),
    let hd := s.head h
    let assigned := if s.executing = none then 0 else 1
    (e.isIn hd.events = true → s.raise h e = s)
    ∧ (e.isIn hd.events = false → s.onlyHead (s.raise h e) h
      ∧ s.raise h e = { s with heads := (s.raise h e).heads, upstream := (s.raise h e).upstream }
      ∧ (∀ k : HeadEvent, k.isIn ((s.raise h e).head h).events = (k.isIn hd.events || k == e))
      ∧ (s.raise h e).head h = { hd with events := ((s.raise h e).head h).events }
      ∧ (s.raise h e).upstream = s.upstream ++ s.noticesFor h e hd ((s.raise h e).head h) assigned)

/-! ### What every step keeps -/

/-- Every step keeps the Pattern Link's invariant (1.2 to 1.6): the sizes of its queues, the failure run, the counts,
and an empty link out of synchronisation. -/
def Obligations.StepKeepsTheLinkInvariant : Prop := ∀ s t : State, s.LinkInv → step s = .next t → t.LinkInv

/-- Every step keeps the sizes of the queues, buffers and counts of the heads and of repair analysis (2.9, 3.1, 3.3,
4.4, 5.1, 7.1, 7.2, 9.1). -/
def Obligations.StepKeepsTheCapacities : Prop := ∀ s t : State, s.CapacityInv → step s = .next t → t.CapacityInv

/-- Every step keeps the life of the heads (chapters 2 and 3): which states have a phase, an access, tracking entries, a
fence timer and the lane signal, which slots are reserved, and that items and jobs are those of the current generation
and jobs those of heads in SOLVING. -/
def Obligations.StepKeepsTheLifeInvariant : Prop :=
  ∀ s t : State, s.LinkInv → s.LifeInv → step s = .next t → t.LifeInv

/-- Every step keeps tracking queues and lane buffers together (5.1, 5.2, 5.6): the ANSWERED entries come first and are
those of the buffered records, and deadlines are paused exactly while the lane is held. -/
def Obligations.StepKeepsTheIntakeInvariant : Prop :=
  ∀ s t : State, (∀ h, (s.head h).IntakeInv) → step s = .next t → ∀ h, (t.head h).IntakeInv

/-- Every step keeps the tags of the unanswered entries a run of consecutive values that ends just below the tag counter
(5.1). -/
def Obligations.StepKeepsTheTagsConsecutive : Prop :=
  ∀ s t : State, s.LinkInv → s.LifeInv → (∀ h, (s.head h).IntakeInv) → (∀ h, (s.head h).TagRun) →
    step s = .next t → ∀ h, (t.head h).TagRun

/-- The invariants hold at reset. -/
def Obligations.ResetMeetsTheInvariants : Prop :=
  State.reset.LinkInv ∧ State.reset.CapacityInv ∧ State.reset.LifeInv ∧ State.reset.BlockInv
    ∧ ∀ h, (State.reset.head h).IntakeInv ∧ (State.reset.head h).TagRun

/-- A final verdict changes only through SEGMENT_OPEN, HEAD_RESET and DEVICE_RESET, and at power-on (3.9): no other
command changes the verdict of a site that is PASS, REPAIRED, UNREPAIRABLE, INCOMPLETE or MASKED. -/
def Obligations.FinalVerdictsChangeOnlyByReopening : Prop :=
  ∀ (c : Instr) (s t : State) (h : HeadId) (i : SiteId),
    c ≠ .powerOn → c ≠ .deviceReset → c ≠ .headReset → c ≠ .segmentOpen → exec c s = .next t →
    ((s.head h).site i).verdict.isFinal = true → ((t.head h).site i).verdict = ((s.head h).site i).verdict

/-- A change of a head's generation ends the life of every fail item and solve job made for the head before it (2.1,
7.1, 7.2, 8.1, 8.2): after a command that changes it no fail item of the head is queued, no solve job of the head
waits in the Solve List (for SEGMENT_OPEN, which finds none, in a state that the heads' invariant allows), and the
work of the head that the engine is doing is overtaken, so that its completion is discarded. A command other than
SEGMENT_OPEN, HEAD_RESET, HEAD_START, a fence, a lane loss, DEVICE_RESET and POWER_ON changes no generation. That
overtaken work is known by a flag is the model's reading (log entry 22). -/
def Obligations.NewGenerationEndsOlderWork : Prop :=
  ∀ (c : Instr) (s t : State) (h : HeadId), exec c s = .next t → (t.head h).generation ≠ (s.head h).generation →
    (∀ it ∈ t.analysis, it.head ≠ h) ∧ (c ≠ .segmentOpen ∨ s.LifeInv → ∀ j ∈ t.solveList, j.head ≠ h)
    ∧ (∀ it, t.engine = .item it false → it.head ≠ h)
    ∧ (∀ j found, t.engine = .job j found false → j.head ≠ h)
    ∧ (c = .segmentOpen ∨ c = .headReset ∨ c = .headStart ∨ c = .fenceTimerExpiry h ∨ c = .laneSignalLoss h
      ∨ c = .deviceReset ∨ c = .powerOn)

/-- The heads are independent on their lanes (2.6 to 2.10, 4.5, chapter 5): an event on the lane of one head that lets
no time pass changes nothing of another head, and neither the tables, the link state, the Request Queue nor the counts
of the link; only the head itself, the Upstream Queue with its reservations, and repair analysis can change. The five
commands by which time passes are no different once that time has passed on the whole part (log entry 3): the quanta
that an ECHO brings, what is left of the 16,383 of a round-trip timer, of the timer of an access, of a fence timer, or
of the deadline of the oldest unanswered entry. Without such a timer they change nothing. -/
def Obligations.LaneEventsTouchTheirOwnHead : Prop :=
  let quiet : State → State → HeadId → Prop := fun s t h => s.onlyHead t h
    ∧ t = { s with
      heads := t.heads, upstream := t.upstream, reservations := t.reservations, analysis := t.analysis
      solveList := t.solveList, engine := t.engine, freeCount := t.freeCount }
  (∀ (c : Instr) (s t : State) (h : HeadId), laneOf c = some h → exec c s = .next t → quiet s t h)
  ∧ ∀ (s : State) (h : HeadId),
    let hd := s.head h
    let hunting := hd.state = .training ∧ hd.phase = some .hunt
    let monitored := hd.state ≠ .offline ∧ hd.state ≠ .fenced
    let oldest : Nat → Prop := fun n => ∃ answered e later, hd.tracking = answered ++ e :: later
      ∧ (∀ k ∈ answered, k.deadline = .answered) ∧ e.deadline = .running n
    (∀ (after : Nat) (t : State), exec (.echo h after) s = .next t → quiet (s.elapse after) t h)
    ∧ (∀ t n, exec (.roundTripTimeout h) s = .next t → hunting → hd.roundTripTimer = some n →
      quiet (s.elapse (16383 - n)) t h)
    ∧ (¬ hunting ∨ hd.roundTripTimer = none → exec (.roundTripTimeout h) s = .next s)
    ∧ (∀ t a, exec (.proxyTimeout h) s = .next t → hd.slot = some a → quiet (s.elapse a.timer) t h)
    ∧ (hd.slot = none → exec (.proxyTimeout h) s = .next s)
    ∧ (∀ t n, exec (.fenceTimerExpiry h) s = .next t → monitored → hd.fenceTimer = some n → quiet (s.elapse n) t h)
    ∧ (¬ monitored ∨ hd.fenceTimer = none → exec (.fenceTimerExpiry h) s = .next s)
    ∧ (∀ t n, exec (.trackingExpiry h) s = .next t → oldest n → quiet (s.elapse n) t h)
    ∧ ((∀ n, ¬ oldest n) → exec (.trackingExpiry h) s = .next s)
end

