-- ==== Sys2Proof/Laws/State.lean ====
section
/-! SUPPORT. The small lemmas of the state and head updates: one for each field and each update. -/

namespace Sys2Proof.Machine

/-! ### A change of one head -/

@[simp] theorem State.head_updHead_self (s : State) (h : HeadId) (f : Head → Head) :
    (s.updHead h f).head h = f (s.head h) := by simp [State.updHead, State.head]

theorem State.head_updHead_ne (s : State) {h k : HeadId} (f : Head → Head) (hk : k ≠ h) :
    (s.updHead h f).head k = s.head k := by
  simp only [State.updHead, State.head]
  exact setAt_ne s.heads h k _ hk

theorem State.head_of_tabulate {t : State} {f : HeadId → Head} (ht : t.heads = tabulate f) (h : HeadId) :
    t.head h = f h := by simp [State.head, ht]

@[simp] theorem State.updHead_link (s : State) (h : HeadId) (f : Head → Head) : (s.updHead h f).link = s.link := rfl
@[simp] theorem State.updHead_failureRun (s : State) (h : HeadId) (f : Head → Head) : (s.updHead h f).failureRun = s.failureRun := rfl
@[simp] theorem State.updHead_expected (s : State) (h : HeadId) (f : Head → Head) : (s.updHead h f).expected = s.expected := rfl
@[simp] theorem State.updHead_crcDiscards (s : State) (h : HeadId) (f : Head → Head) : (s.updHead h f).crcDiscards = s.crcDiscards := rfl
@[simp] theorem State.updHead_requestDrops (s : State) (h : HeadId) (f : Head → Head) : (s.updHead h f).requestDrops = s.requestDrops := rfl
@[simp] theorem State.updHead_requests (s : State) (h : HeadId) (f : Head → Head) : (s.updHead h f).requests = s.requests := rfl
@[simp] theorem State.updHead_executing (s : State) (h : HeadId) (f : Head → Head) : (s.updHead h f).executing = s.executing := rfl
@[simp] theorem State.updHead_upstream (s : State) (h : HeadId) (f : Head → Head) : (s.updHead h f).upstream = s.upstream := rfl
@[simp] theorem State.updHead_reservations (s : State) (h : HeadId) (f : Head → Head) : (s.updHead h f).reservations = s.reservations := rfl
@[simp] theorem State.updHead_linkOut (s : State) (h : HeadId) (f : Head → Head) : (s.updHead h f).linkOut = s.linkOut := rfl
@[simp] theorem State.updHead_markers (s : State) (h : HeadId) (f : Head → Head) : (s.updHead h f).markers = s.markers := rfl
@[simp] theorem State.updHead_latency (s : State) (h : HeadId) (f : Head → Head) : (s.updHead h f).latency = s.latency := rfl
@[simp] theorem State.updHead_analysis (s : State) (h : HeadId) (f : Head → Head) : (s.updHead h f).analysis = s.analysis := rfl
@[simp] theorem State.updHead_solveList (s : State) (h : HeadId) (f : Head → Head) : (s.updHead h f).solveList = s.solveList := rfl
@[simp] theorem State.updHead_engine (s : State) (h : HeadId) (f : Head → Head) : (s.updHead h f).engine = s.engine := rfl
@[simp] theorem State.updHead_arbiterCount (s : State) (h : HeadId) (f : Head → Head) : (s.updHead h f).arbiterCount = s.arbiterCount := rfl
@[simp] theorem State.updHead_freeCount (s : State) (h : HeadId) (f : Head → Head) : (s.updHead h f).freeCount = s.freeCount := rfl
@[simp] theorem State.updHead_pending (s : State) (h : HeadId) (f : Head → Head) : (s.updHead h f).pending = s.pending := rfl

/-! ### The heads when a field of the shared blocks changes -/

@[simp] theorem State.head_set_link (s : State) (h : HeadId) (x) : State.head { s with link := x } h = s.head h := rfl
@[simp] theorem State.head_set_failureRun (s : State) (h : HeadId) (x) : State.head { s with failureRun := x } h = s.head h := rfl
@[simp] theorem State.head_set_expected (s : State) (h : HeadId) (x) : State.head { s with expected := x } h = s.head h := rfl
@[simp] theorem State.head_set_crcDiscards (s : State) (h : HeadId) (x) : State.head { s with crcDiscards := x } h = s.head h := rfl
@[simp] theorem State.head_set_requestDrops (s : State) (h : HeadId) (x) : State.head { s with requestDrops := x } h = s.head h := rfl
@[simp] theorem State.head_set_requests (s : State) (h : HeadId) (x) : State.head { s with requests := x } h = s.head h := rfl
@[simp] theorem State.head_set_executing (s : State) (h : HeadId) (x) : State.head { s with executing := x } h = s.head h := rfl
@[simp] theorem State.head_set_upstream (s : State) (h : HeadId) (x) : State.head { s with upstream := x } h = s.head h := rfl
@[simp] theorem State.head_set_reservations (s : State) (h : HeadId) (x) : State.head { s with reservations := x } h = s.head h := rfl
@[simp] theorem State.head_set_linkOut (s : State) (h : HeadId) (x) : State.head { s with linkOut := x } h = s.head h := rfl
@[simp] theorem State.head_set_markers (s : State) (h : HeadId) (x) : State.head { s with markers := x } h = s.head h := rfl
@[simp] theorem State.head_set_latency (s : State) (h : HeadId) (x) : State.head { s with latency := x } h = s.head h := rfl
@[simp] theorem State.head_set_analysis (s : State) (h : HeadId) (x) : State.head { s with analysis := x } h = s.head h := rfl
@[simp] theorem State.head_set_solveList (s : State) (h : HeadId) (x) : State.head { s with solveList := x } h = s.head h := rfl
@[simp] theorem State.head_set_engine (s : State) (h : HeadId) (x) : State.head { s with engine := x } h = s.head h := rfl
@[simp] theorem State.head_set_arbiterCount (s : State) (h : HeadId) (x) : State.head { s with arbiterCount := x } h = s.head h := rfl
@[simp] theorem State.head_set_freeCount (s : State) (h : HeadId) (x) : State.head { s with freeCount := x } h = s.head h := rfl
@[simp] theorem State.head_set_pending (s : State) (h : HeadId) (x) : State.head { s with pending := x } h = s.head h := rfl

/-! ### Site Records and Block Records -/

@[simp] theorem Head.site_updSite_self (hd : Head) (i : SiteId) (f : Site → Site) :
    (hd.updSite i f).site i = f (hd.site i) := by simp [Head.updSite, Head.site]

theorem Head.site_updSite_ne (hd : Head) {i j : SiteId} (f : Site → Site) (hj : j ≠ i) :
    (hd.updSite i f).site j = hd.site j := by
  simp only [Head.updSite, Head.site]
  exact setAt_ne hd.sites i j _ hj

@[simp] theorem Head.site_mapSites (hd : Head) (f : SiteId → Site → Site) (i : SiteId) :
    (hd.mapSites f).site i = f i (hd.site i) := by simp [Head.mapSites, Head.site]

@[simp] theorem Head.block_mapBlocks (hd : Head) (f : SiteId → BlockId → Block → Block) (i : SiteId) (b : BlockId) :
    (hd.mapBlocks f).block i b = f i b (hd.block i b) := by simp [Head.mapBlocks, Head.block]

@[simp] theorem Head.block_setBlock_self (hd : Head) (i : SiteId) (b : BlockId) (x : Block) :
    (hd.setBlock i b x).block i b = x := by simp [Head.setBlock, Head.block]

theorem Head.block_setBlock_ne (hd : Head) {i j : SiteId} {b c : BlockId} (x : Block) (hn : j ≠ i ∨ c ≠ b) :
    (hd.setBlock i b x).block j c = hd.block j c := by
  by_cases hj : j = i
  · subst hj
    have hc : c ≠ b := hn.resolve_left (fun e => e rfl)
    have hs : (setAt hd.blocks j (setAt hd.blocks[j] b x))[j] = setAt hd.blocks[j] b x := setAt_self _ _ _
    exact (congrArg (fun v : Vector Block 16 => v[c]) hs).trans (setAt_ne _ b c x hc)
  · exact congrArg (fun v : Vector Block 16 => v[c]) (setAt_ne hd.blocks i j _ hj)

@[simp] theorem siteSet_getLsbD (p : SiteId → Bool) (i : SiteId) : (siteSet p).getLsbD i.val = p i := by
  simp [siteSet]

/-! ### What a change of one site leaves -/

@[simp] theorem Head.updSite_state (hd : Head) (i : SiteId) (f : Site → Site) : (hd.updSite i f).state = hd.state := rfl
@[simp] theorem Head.updSite_phase (hd : Head) (i : SiteId) (f : Site → Site) : (hd.updSite i f).phase = hd.phase := rfl
@[simp] theorem Head.updSite_reason (hd : Head) (i : SiteId) (f : Site → Site) : (hd.updSite i f).reason = hd.reason := rfl
@[simp] theorem Head.updSite_classIndex (hd : Head) (i : SiteId) (f : Site → Site) : (hd.updSite i f).classIndex = hd.classIndex := rfl
@[simp] theorem Head.updSite_roundTrip (hd : Head) (i : SiteId) (f : Site → Site) : (hd.updSite i f).roundTrip = hd.roundTrip := rfl
@[simp] theorem Head.updSite_resultWindow (hd : Head) (i : SiteId) (f : Site → Site) : (hd.updSite i f).resultWindow = hd.resultWindow := rfl
@[simp] theorem Head.updSite_profile (hd : Head) (i : SiteId) (f : Site → Site) : (hd.updSite i f).profile = hd.profile := rfl
@[simp] theorem Head.updSite_setup (hd : Head) (i : SiteId) (f : Site → Site) : (hd.updSite i f).setup = hd.setup := rfl
@[simp] theorem Head.updSite_generation (hd : Head) (i : SiteId) (f : Site → Site) : (hd.updSite i f).generation = hd.generation := rfl
@[simp] theorem Head.updSite_events (hd : Head) (i : SiteId) (f : Site → Site) : (hd.updSite i f).events = hd.events := rfl
@[simp] theorem Head.updSite_mask (hd : Head) (i : SiteId) (f : Site → Site) : (hd.updSite i f).mask = hd.mask := rfl
@[simp] theorem Head.updSite_supplyGood (hd : Head) (i : SiteId) (f : Site → Site) : (hd.updSite i f).supplyGood = hd.supplyGood := rfl
@[simp] theorem Head.updSite_fenceTimer (hd : Head) (i : SiteId) (f : Site → Site) : (hd.updSite i f).fenceTimer = hd.fenceTimer := rfl
@[simp] theorem Head.updSite_laneSignal (hd : Head) (i : SiteId) (f : Site → Site) : (hd.updSite i f).laneSignal = hd.laneSignal := rfl
@[simp] theorem Head.updSite_probeWaiting (hd : Head) (i : SiteId) (f : Site → Site) : (hd.updSite i f).probeWaiting = hd.probeWaiting := rfl
@[simp] theorem Head.updSite_roundTripTimer (hd : Head) (i : SiteId) (f : Site → Site) : (hd.updSite i f).roundTripTimer = hd.roundTripTimer := rfl
@[simp] theorem Head.updSite_slot (hd : Head) (i : SiteId) (f : Site → Site) : (hd.updSite i f).slot = hd.slot := rfl
@[simp] theorem Head.updSite_laneBuffer (hd : Head) (i : SiteId) (f : Site → Site) : (hd.updSite i f).laneBuffer = hd.laneBuffer := rfl
@[simp] theorem Head.updSite_reception (hd : Head) (i : SiteId) (f : Site → Site) : (hd.updSite i f).reception = hd.reception := rfl
@[simp] theorem Head.updSite_laneHeld (hd : Head) (i : SiteId) (f : Site → Site) : (hd.updSite i f).laneHeld = hd.laneHeld := rfl
@[simp] theorem Head.updSite_transmitting (hd : Head) (i : SiteId) (f : Site → Site) : (hd.updSite i f).transmitting = hd.transmitting := rfl
@[simp] theorem Head.updSite_laneOut (hd : Head) (i : SiteId) (f : Site → Site) : (hd.updSite i f).laneOut = hd.laneOut := rfl
@[simp] theorem Head.updSite_sendQueue (hd : Head) (i : SiteId) (f : Site → Site) : (hd.updSite i f).sendQueue = hd.sendQueue := rfl
@[simp] theorem Head.updSite_tracking (hd : Head) (i : SiteId) (f : Site → Site) : (hd.updSite i f).tracking = hd.tracking := rfl
@[simp] theorem Head.updSite_tagCounter (hd : Head) (i : SiteId) (f : Site → Site) : (hd.updSite i f).tagCounter = hd.tagCounter := rfl
@[simp] theorem Head.updSite_strays (hd : Head) (i : SiteId) (f : Site → Site) : (hd.updSite i f).strays = hd.strays := rfl
@[simp] theorem Head.updSite_geometry (hd : Head) (i : SiteId) (f : Site → Site) : (hd.updSite i f).geometry = hd.geometry := rfl
@[simp] theorem Head.updSite_windows (hd : Head) (i : SiteId) (f : Site → Site) : (hd.updSite i f).windows = hd.windows := rfl
@[simp] theorem Head.updSite_capture (hd : Head) (i : SiteId) (f : Site → Site) : (hd.updSite i f).capture = hd.capture := rfl
@[simp] theorem Head.updSite_logArmed (hd : Head) (i : SiteId) (f : Site → Site) : (hd.updSite i f).logArmed = hd.logArmed := rfl
@[simp] theorem Head.updSite_vectorIndex (hd : Head) (i : SiteId) (f : Site → Site) : (hd.updSite i f).vectorIndex = hd.vectorIndex := rfl
@[simp] theorem Head.updSite_skipped (hd : Head) (i : SiteId) (f : Site → Site) : (hd.updSite i f).skipped = hd.skipped := rfl
@[simp] theorem Head.updSite_blocks (hd : Head) (i : SiteId) (f : Site → Site) : (hd.updSite i f).blocks = hd.blocks := rfl
@[simp] theorem Head.updSite_log (hd : Head) (i : SiteId) (f : Site → Site) : (hd.updSite i f).log = hd.log := rfl
@[simp] theorem Head.updSite_overrun (hd : Head) (i : SiteId) (f : Site → Site) : (hd.updSite i f).overrun = hd.overrun := rfl

/-! ### What a change of every site leaves -/

@[simp] theorem Head.mapSites_state (hd : Head) (f : SiteId → Site → Site) : (hd.mapSites f).state = hd.state := rfl
@[simp] theorem Head.mapSites_phase (hd : Head) (f : SiteId → Site → Site) : (hd.mapSites f).phase = hd.phase := rfl
@[simp] theorem Head.mapSites_reason (hd : Head) (f : SiteId → Site → Site) : (hd.mapSites f).reason = hd.reason := rfl
@[simp] theorem Head.mapSites_classIndex (hd : Head) (f : SiteId → Site → Site) : (hd.mapSites f).classIndex = hd.classIndex := rfl
@[simp] theorem Head.mapSites_roundTrip (hd : Head) (f : SiteId → Site → Site) : (hd.mapSites f).roundTrip = hd.roundTrip := rfl
@[simp] theorem Head.mapSites_resultWindow (hd : Head) (f : SiteId → Site → Site) : (hd.mapSites f).resultWindow = hd.resultWindow := rfl
@[simp] theorem Head.mapSites_profile (hd : Head) (f : SiteId → Site → Site) : (hd.mapSites f).profile = hd.profile := rfl
@[simp] theorem Head.mapSites_setup (hd : Head) (f : SiteId → Site → Site) : (hd.mapSites f).setup = hd.setup := rfl
@[simp] theorem Head.mapSites_generation (hd : Head) (f : SiteId → Site → Site) : (hd.mapSites f).generation = hd.generation := rfl
@[simp] theorem Head.mapSites_events (hd : Head) (f : SiteId → Site → Site) : (hd.mapSites f).events = hd.events := rfl
@[simp] theorem Head.mapSites_mask (hd : Head) (f : SiteId → Site → Site) : (hd.mapSites f).mask = hd.mask := rfl
@[simp] theorem Head.mapSites_supplyGood (hd : Head) (f : SiteId → Site → Site) : (hd.mapSites f).supplyGood = hd.supplyGood := rfl
@[simp] theorem Head.mapSites_fenceTimer (hd : Head) (f : SiteId → Site → Site) : (hd.mapSites f).fenceTimer = hd.fenceTimer := rfl
@[simp] theorem Head.mapSites_laneSignal (hd : Head) (f : SiteId → Site → Site) : (hd.mapSites f).laneSignal = hd.laneSignal := rfl
@[simp] theorem Head.mapSites_probeWaiting (hd : Head) (f : SiteId → Site → Site) : (hd.mapSites f).probeWaiting = hd.probeWaiting := rfl
@[simp] theorem Head.mapSites_roundTripTimer (hd : Head) (f : SiteId → Site → Site) : (hd.mapSites f).roundTripTimer = hd.roundTripTimer := rfl
@[simp] theorem Head.mapSites_slot (hd : Head) (f : SiteId → Site → Site) : (hd.mapSites f).slot = hd.slot := rfl
@[simp] theorem Head.mapSites_laneBuffer (hd : Head) (f : SiteId → Site → Site) : (hd.mapSites f).laneBuffer = hd.laneBuffer := rfl
@[simp] theorem Head.mapSites_reception (hd : Head) (f : SiteId → Site → Site) : (hd.mapSites f).reception = hd.reception := rfl
@[simp] theorem Head.mapSites_laneHeld (hd : Head) (f : SiteId → Site → Site) : (hd.mapSites f).laneHeld = hd.laneHeld := rfl
@[simp] theorem Head.mapSites_transmitting (hd : Head) (f : SiteId → Site → Site) : (hd.mapSites f).transmitting = hd.transmitting := rfl
@[simp] theorem Head.mapSites_laneOut (hd : Head) (f : SiteId → Site → Site) : (hd.mapSites f).laneOut = hd.laneOut := rfl
@[simp] theorem Head.mapSites_sendQueue (hd : Head) (f : SiteId → Site → Site) : (hd.mapSites f).sendQueue = hd.sendQueue := rfl
@[simp] theorem Head.mapSites_tracking (hd : Head) (f : SiteId → Site → Site) : (hd.mapSites f).tracking = hd.tracking := rfl
@[simp] theorem Head.mapSites_tagCounter (hd : Head) (f : SiteId → Site → Site) : (hd.mapSites f).tagCounter = hd.tagCounter := rfl
@[simp] theorem Head.mapSites_strays (hd : Head) (f : SiteId → Site → Site) : (hd.mapSites f).strays = hd.strays := rfl
@[simp] theorem Head.mapSites_geometry (hd : Head) (f : SiteId → Site → Site) : (hd.mapSites f).geometry = hd.geometry := rfl
@[simp] theorem Head.mapSites_windows (hd : Head) (f : SiteId → Site → Site) : (hd.mapSites f).windows = hd.windows := rfl
@[simp] theorem Head.mapSites_capture (hd : Head) (f : SiteId → Site → Site) : (hd.mapSites f).capture = hd.capture := rfl
@[simp] theorem Head.mapSites_logArmed (hd : Head) (f : SiteId → Site → Site) : (hd.mapSites f).logArmed = hd.logArmed := rfl
@[simp] theorem Head.mapSites_vectorIndex (hd : Head) (f : SiteId → Site → Site) : (hd.mapSites f).vectorIndex = hd.vectorIndex := rfl
@[simp] theorem Head.mapSites_skipped (hd : Head) (f : SiteId → Site → Site) : (hd.mapSites f).skipped = hd.skipped := rfl
@[simp] theorem Head.mapSites_blocks (hd : Head) (f : SiteId → Site → Site) : (hd.mapSites f).blocks = hd.blocks := rfl
@[simp] theorem Head.mapSites_log (hd : Head) (f : SiteId → Site → Site) : (hd.mapSites f).log = hd.log := rfl
@[simp] theorem Head.mapSites_overrun (hd : Head) (f : SiteId → Site → Site) : (hd.mapSites f).overrun = hd.overrun := rfl

/-! ### What a change of one block leaves -/

@[simp] theorem Head.setBlock_state (hd : Head) (i : SiteId) (b : BlockId) (x : Block) : (hd.setBlock i b x).state = hd.state := rfl
@[simp] theorem Head.setBlock_phase (hd : Head) (i : SiteId) (b : BlockId) (x : Block) : (hd.setBlock i b x).phase = hd.phase := rfl
@[simp] theorem Head.setBlock_reason (hd : Head) (i : SiteId) (b : BlockId) (x : Block) : (hd.setBlock i b x).reason = hd.reason := rfl
@[simp] theorem Head.setBlock_classIndex (hd : Head) (i : SiteId) (b : BlockId) (x : Block) : (hd.setBlock i b x).classIndex = hd.classIndex := rfl
@[simp] theorem Head.setBlock_roundTrip (hd : Head) (i : SiteId) (b : BlockId) (x : Block) : (hd.setBlock i b x).roundTrip = hd.roundTrip := rfl
@[simp] theorem Head.setBlock_resultWindow (hd : Head) (i : SiteId) (b : BlockId) (x : Block) : (hd.setBlock i b x).resultWindow = hd.resultWindow := rfl
@[simp] theorem Head.setBlock_profile (hd : Head) (i : SiteId) (b : BlockId) (x : Block) : (hd.setBlock i b x).profile = hd.profile := rfl
@[simp] theorem Head.setBlock_setup (hd : Head) (i : SiteId) (b : BlockId) (x : Block) : (hd.setBlock i b x).setup = hd.setup := rfl
@[simp] theorem Head.setBlock_generation (hd : Head) (i : SiteId) (b : BlockId) (x : Block) : (hd.setBlock i b x).generation = hd.generation := rfl
@[simp] theorem Head.setBlock_events (hd : Head) (i : SiteId) (b : BlockId) (x : Block) : (hd.setBlock i b x).events = hd.events := rfl
@[simp] theorem Head.setBlock_mask (hd : Head) (i : SiteId) (b : BlockId) (x : Block) : (hd.setBlock i b x).mask = hd.mask := rfl
@[simp] theorem Head.setBlock_supplyGood (hd : Head) (i : SiteId) (b : BlockId) (x : Block) : (hd.setBlock i b x).supplyGood = hd.supplyGood := rfl
@[simp] theorem Head.setBlock_fenceTimer (hd : Head) (i : SiteId) (b : BlockId) (x : Block) : (hd.setBlock i b x).fenceTimer = hd.fenceTimer := rfl
@[simp] theorem Head.setBlock_laneSignal (hd : Head) (i : SiteId) (b : BlockId) (x : Block) : (hd.setBlock i b x).laneSignal = hd.laneSignal := rfl
@[simp] theorem Head.setBlock_probeWaiting (hd : Head) (i : SiteId) (b : BlockId) (x : Block) : (hd.setBlock i b x).probeWaiting = hd.probeWaiting := rfl
@[simp] theorem Head.setBlock_roundTripTimer (hd : Head) (i : SiteId) (b : BlockId) (x : Block) : (hd.setBlock i b x).roundTripTimer = hd.roundTripTimer := rfl
@[simp] theorem Head.setBlock_slot (hd : Head) (i : SiteId) (b : BlockId) (x : Block) : (hd.setBlock i b x).slot = hd.slot := rfl
@[simp] theorem Head.setBlock_laneBuffer (hd : Head) (i : SiteId) (b : BlockId) (x : Block) : (hd.setBlock i b x).laneBuffer = hd.laneBuffer := rfl
@[simp] theorem Head.setBlock_reception (hd : Head) (i : SiteId) (b : BlockId) (x : Block) : (hd.setBlock i b x).reception = hd.reception := rfl
@[simp] theorem Head.setBlock_laneHeld (hd : Head) (i : SiteId) (b : BlockId) (x : Block) : (hd.setBlock i b x).laneHeld = hd.laneHeld := rfl
@[simp] theorem Head.setBlock_transmitting (hd : Head) (i : SiteId) (b : BlockId) (x : Block) : (hd.setBlock i b x).transmitting = hd.transmitting := rfl
@[simp] theorem Head.setBlock_laneOut (hd : Head) (i : SiteId) (b : BlockId) (x : Block) : (hd.setBlock i b x).laneOut = hd.laneOut := rfl
@[simp] theorem Head.setBlock_sendQueue (hd : Head) (i : SiteId) (b : BlockId) (x : Block) : (hd.setBlock i b x).sendQueue = hd.sendQueue := rfl
@[simp] theorem Head.setBlock_tracking (hd : Head) (i : SiteId) (b : BlockId) (x : Block) : (hd.setBlock i b x).tracking = hd.tracking := rfl
@[simp] theorem Head.setBlock_tagCounter (hd : Head) (i : SiteId) (b : BlockId) (x : Block) : (hd.setBlock i b x).tagCounter = hd.tagCounter := rfl
@[simp] theorem Head.setBlock_strays (hd : Head) (i : SiteId) (b : BlockId) (x : Block) : (hd.setBlock i b x).strays = hd.strays := rfl
@[simp] theorem Head.setBlock_geometry (hd : Head) (i : SiteId) (b : BlockId) (x : Block) : (hd.setBlock i b x).geometry = hd.geometry := rfl
@[simp] theorem Head.setBlock_windows (hd : Head) (i : SiteId) (b : BlockId) (x : Block) : (hd.setBlock i b x).windows = hd.windows := rfl
@[simp] theorem Head.setBlock_sites (hd : Head) (i : SiteId) (b : BlockId) (x : Block) : (hd.setBlock i b x).sites = hd.sites := rfl
@[simp] theorem Head.setBlock_capture (hd : Head) (i : SiteId) (b : BlockId) (x : Block) : (hd.setBlock i b x).capture = hd.capture := rfl
@[simp] theorem Head.setBlock_logArmed (hd : Head) (i : SiteId) (b : BlockId) (x : Block) : (hd.setBlock i b x).logArmed = hd.logArmed := rfl
@[simp] theorem Head.setBlock_vectorIndex (hd : Head) (i : SiteId) (b : BlockId) (x : Block) : (hd.setBlock i b x).vectorIndex = hd.vectorIndex := rfl
@[simp] theorem Head.setBlock_skipped (hd : Head) (i : SiteId) (b : BlockId) (x : Block) : (hd.setBlock i b x).skipped = hd.skipped := rfl
@[simp] theorem Head.setBlock_log (hd : Head) (i : SiteId) (b : BlockId) (x : Block) : (hd.setBlock i b x).log = hd.log := rfl
@[simp] theorem Head.setBlock_overrun (hd : Head) (i : SiteId) (b : BlockId) (x : Block) : (hd.setBlock i b x).overrun = hd.overrun := rfl

/-! ### What a change of every block leaves -/

@[simp] theorem Head.mapBlocks_state (hd : Head) (f : SiteId → BlockId → Block → Block) : (hd.mapBlocks f).state = hd.state := rfl
@[simp] theorem Head.mapBlocks_phase (hd : Head) (f : SiteId → BlockId → Block → Block) : (hd.mapBlocks f).phase = hd.phase := rfl
@[simp] theorem Head.mapBlocks_reason (hd : Head) (f : SiteId → BlockId → Block → Block) : (hd.mapBlocks f).reason = hd.reason := rfl
@[simp] theorem Head.mapBlocks_classIndex (hd : Head) (f : SiteId → BlockId → Block → Block) : (hd.mapBlocks f).classIndex = hd.classIndex := rfl
@[simp] theorem Head.mapBlocks_roundTrip (hd : Head) (f : SiteId → BlockId → Block → Block) : (hd.mapBlocks f).roundTrip = hd.roundTrip := rfl
@[simp] theorem Head.mapBlocks_resultWindow (hd : Head) (f : SiteId → BlockId → Block → Block) : (hd.mapBlocks f).resultWindow = hd.resultWindow := rfl
@[simp] theorem Head.mapBlocks_profile (hd : Head) (f : SiteId → BlockId → Block → Block) : (hd.mapBlocks f).profile = hd.profile := rfl
@[simp] theorem Head.mapBlocks_setup (hd : Head) (f : SiteId → BlockId → Block → Block) : (hd.mapBlocks f).setup = hd.setup := rfl
@[simp] theorem Head.mapBlocks_generation (hd : Head) (f : SiteId → BlockId → Block → Block) : (hd.mapBlocks f).generation = hd.generation := rfl
@[simp] theorem Head.mapBlocks_events (hd : Head) (f : SiteId → BlockId → Block → Block) : (hd.mapBlocks f).events = hd.events := rfl
@[simp] theorem Head.mapBlocks_mask (hd : Head) (f : SiteId → BlockId → Block → Block) : (hd.mapBlocks f).mask = hd.mask := rfl
@[simp] theorem Head.mapBlocks_supplyGood (hd : Head) (f : SiteId → BlockId → Block → Block) : (hd.mapBlocks f).supplyGood = hd.supplyGood := rfl
@[simp] theorem Head.mapBlocks_fenceTimer (hd : Head) (f : SiteId → BlockId → Block → Block) : (hd.mapBlocks f).fenceTimer = hd.fenceTimer := rfl
@[simp] theorem Head.mapBlocks_laneSignal (hd : Head) (f : SiteId → BlockId → Block → Block) : (hd.mapBlocks f).laneSignal = hd.laneSignal := rfl
@[simp] theorem Head.mapBlocks_probeWaiting (hd : Head) (f : SiteId → BlockId → Block → Block) : (hd.mapBlocks f).probeWaiting = hd.probeWaiting := rfl
@[simp] theorem Head.mapBlocks_roundTripTimer (hd : Head) (f : SiteId → BlockId → Block → Block) : (hd.mapBlocks f).roundTripTimer = hd.roundTripTimer := rfl
@[simp] theorem Head.mapBlocks_slot (hd : Head) (f : SiteId → BlockId → Block → Block) : (hd.mapBlocks f).slot = hd.slot := rfl
@[simp] theorem Head.mapBlocks_laneBuffer (hd : Head) (f : SiteId → BlockId → Block → Block) : (hd.mapBlocks f).laneBuffer = hd.laneBuffer := rfl
@[simp] theorem Head.mapBlocks_reception (hd : Head) (f : SiteId → BlockId → Block → Block) : (hd.mapBlocks f).reception = hd.reception := rfl
@[simp] theorem Head.mapBlocks_laneHeld (hd : Head) (f : SiteId → BlockId → Block → Block) : (hd.mapBlocks f).laneHeld = hd.laneHeld := rfl
@[simp] theorem Head.mapBlocks_transmitting (hd : Head) (f : SiteId → BlockId → Block → Block) : (hd.mapBlocks f).transmitting = hd.transmitting := rfl
@[simp] theorem Head.mapBlocks_laneOut (hd : Head) (f : SiteId → BlockId → Block → Block) : (hd.mapBlocks f).laneOut = hd.laneOut := rfl
@[simp] theorem Head.mapBlocks_sendQueue (hd : Head) (f : SiteId → BlockId → Block → Block) : (hd.mapBlocks f).sendQueue = hd.sendQueue := rfl
@[simp] theorem Head.mapBlocks_tracking (hd : Head) (f : SiteId → BlockId → Block → Block) : (hd.mapBlocks f).tracking = hd.tracking := rfl
@[simp] theorem Head.mapBlocks_tagCounter (hd : Head) (f : SiteId → BlockId → Block → Block) : (hd.mapBlocks f).tagCounter = hd.tagCounter := rfl
@[simp] theorem Head.mapBlocks_strays (hd : Head) (f : SiteId → BlockId → Block → Block) : (hd.mapBlocks f).strays = hd.strays := rfl
@[simp] theorem Head.mapBlocks_geometry (hd : Head) (f : SiteId → BlockId → Block → Block) : (hd.mapBlocks f).geometry = hd.geometry := rfl
@[simp] theorem Head.mapBlocks_windows (hd : Head) (f : SiteId → BlockId → Block → Block) : (hd.mapBlocks f).windows = hd.windows := rfl
@[simp] theorem Head.mapBlocks_sites (hd : Head) (f : SiteId → BlockId → Block → Block) : (hd.mapBlocks f).sites = hd.sites := rfl
@[simp] theorem Head.mapBlocks_capture (hd : Head) (f : SiteId → BlockId → Block → Block) : (hd.mapBlocks f).capture = hd.capture := rfl
@[simp] theorem Head.mapBlocks_logArmed (hd : Head) (f : SiteId → BlockId → Block → Block) : (hd.mapBlocks f).logArmed = hd.logArmed := rfl
@[simp] theorem Head.mapBlocks_vectorIndex (hd : Head) (f : SiteId → BlockId → Block → Block) : (hd.mapBlocks f).vectorIndex = hd.vectorIndex := rfl
@[simp] theorem Head.mapBlocks_skipped (hd : Head) (f : SiteId → BlockId → Block → Block) : (hd.mapBlocks f).skipped = hd.skipped := rfl
@[simp] theorem Head.mapBlocks_log (hd : Head) (f : SiteId → BlockId → Block → Block) : (hd.mapBlocks f).log = hd.log := rfl
@[simp] theorem Head.mapBlocks_overrun (hd : Head) (f : SiteId → BlockId → Block → Block) : (hd.mapBlocks f).overrun = hd.overrun := rfl

/-! ### What a finalisation leaves -/

@[simp] theorem Head.finalise_state (hd : Head) (p : SiteId → Bool) : (hd.finalise p).state = hd.state := rfl
@[simp] theorem Head.finalise_phase (hd : Head) (p : SiteId → Bool) : (hd.finalise p).phase = hd.phase := rfl
@[simp] theorem Head.finalise_reason (hd : Head) (p : SiteId → Bool) : (hd.finalise p).reason = hd.reason := rfl
@[simp] theorem Head.finalise_classIndex (hd : Head) (p : SiteId → Bool) : (hd.finalise p).classIndex = hd.classIndex := rfl
@[simp] theorem Head.finalise_roundTrip (hd : Head) (p : SiteId → Bool) : (hd.finalise p).roundTrip = hd.roundTrip := rfl
@[simp] theorem Head.finalise_resultWindow (hd : Head) (p : SiteId → Bool) : (hd.finalise p).resultWindow = hd.resultWindow := rfl
@[simp] theorem Head.finalise_profile (hd : Head) (p : SiteId → Bool) : (hd.finalise p).profile = hd.profile := rfl
@[simp] theorem Head.finalise_setup (hd : Head) (p : SiteId → Bool) : (hd.finalise p).setup = hd.setup := rfl
@[simp] theorem Head.finalise_generation (hd : Head) (p : SiteId → Bool) : (hd.finalise p).generation = hd.generation := rfl
@[simp] theorem Head.finalise_events (hd : Head) (p : SiteId → Bool) : (hd.finalise p).events = hd.events := rfl
@[simp] theorem Head.finalise_mask (hd : Head) (p : SiteId → Bool) : (hd.finalise p).mask = hd.mask := rfl
@[simp] theorem Head.finalise_supplyGood (hd : Head) (p : SiteId → Bool) : (hd.finalise p).supplyGood = hd.supplyGood := rfl
@[simp] theorem Head.finalise_fenceTimer (hd : Head) (p : SiteId → Bool) : (hd.finalise p).fenceTimer = hd.fenceTimer := rfl
@[simp] theorem Head.finalise_laneSignal (hd : Head) (p : SiteId → Bool) : (hd.finalise p).laneSignal = hd.laneSignal := rfl
@[simp] theorem Head.finalise_probeWaiting (hd : Head) (p : SiteId → Bool) : (hd.finalise p).probeWaiting = hd.probeWaiting := rfl
@[simp] theorem Head.finalise_roundTripTimer (hd : Head) (p : SiteId → Bool) : (hd.finalise p).roundTripTimer = hd.roundTripTimer := rfl
@[simp] theorem Head.finalise_slot (hd : Head) (p : SiteId → Bool) : (hd.finalise p).slot = hd.slot := rfl
@[simp] theorem Head.finalise_laneBuffer (hd : Head) (p : SiteId → Bool) : (hd.finalise p).laneBuffer = hd.laneBuffer := rfl
@[simp] theorem Head.finalise_reception (hd : Head) (p : SiteId → Bool) : (hd.finalise p).reception = hd.reception := rfl
@[simp] theorem Head.finalise_laneHeld (hd : Head) (p : SiteId → Bool) : (hd.finalise p).laneHeld = hd.laneHeld := rfl
@[simp] theorem Head.finalise_transmitting (hd : Head) (p : SiteId → Bool) : (hd.finalise p).transmitting = hd.transmitting := rfl
@[simp] theorem Head.finalise_laneOut (hd : Head) (p : SiteId → Bool) : (hd.finalise p).laneOut = hd.laneOut := rfl
@[simp] theorem Head.finalise_sendQueue (hd : Head) (p : SiteId → Bool) : (hd.finalise p).sendQueue = hd.sendQueue := rfl
@[simp] theorem Head.finalise_tracking (hd : Head) (p : SiteId → Bool) : (hd.finalise p).tracking = hd.tracking := rfl
@[simp] theorem Head.finalise_tagCounter (hd : Head) (p : SiteId → Bool) : (hd.finalise p).tagCounter = hd.tagCounter := rfl
@[simp] theorem Head.finalise_strays (hd : Head) (p : SiteId → Bool) : (hd.finalise p).strays = hd.strays := rfl
@[simp] theorem Head.finalise_geometry (hd : Head) (p : SiteId → Bool) : (hd.finalise p).geometry = hd.geometry := rfl
@[simp] theorem Head.finalise_windows (hd : Head) (p : SiteId → Bool) : (hd.finalise p).windows = hd.windows := rfl
@[simp] theorem Head.finalise_capture (hd : Head) (p : SiteId → Bool) : (hd.finalise p).capture = hd.capture := rfl
@[simp] theorem Head.finalise_logArmed (hd : Head) (p : SiteId → Bool) : (hd.finalise p).logArmed = hd.logArmed := rfl
@[simp] theorem Head.finalise_vectorIndex (hd : Head) (p : SiteId → Bool) : (hd.finalise p).vectorIndex = hd.vectorIndex := rfl
@[simp] theorem Head.finalise_skipped (hd : Head) (p : SiteId → Bool) : (hd.finalise p).skipped = hd.skipped := rfl
@[simp] theorem Head.finalise_blocks (hd : Head) (p : SiteId → Bool) : (hd.finalise p).blocks = hd.blocks := rfl
@[simp] theorem Head.finalise_log (hd : Head) (p : SiteId → Bool) : (hd.finalise p).log = hd.log := rfl
@[simp] theorem Head.finalise_overrun (hd : Head) (p : SiteId → Bool) : (hd.finalise p).overrun = hd.overrun := rfl

/-! ### What a loss cause leaves -/

@[simp] theorem Head.lose_state (hd : Head) (c : LossCause) (x : BitVec 16) : (Head.lose c x hd).state = hd.state := rfl
@[simp] theorem Head.lose_phase (hd : Head) (c : LossCause) (x : BitVec 16) : (Head.lose c x hd).phase = hd.phase := rfl
@[simp] theorem Head.lose_reason (hd : Head) (c : LossCause) (x : BitVec 16) : (Head.lose c x hd).reason = hd.reason := rfl
@[simp] theorem Head.lose_classIndex (hd : Head) (c : LossCause) (x : BitVec 16) : (Head.lose c x hd).classIndex = hd.classIndex := rfl
@[simp] theorem Head.lose_roundTrip (hd : Head) (c : LossCause) (x : BitVec 16) : (Head.lose c x hd).roundTrip = hd.roundTrip := rfl
@[simp] theorem Head.lose_resultWindow (hd : Head) (c : LossCause) (x : BitVec 16) : (Head.lose c x hd).resultWindow = hd.resultWindow := rfl
@[simp] theorem Head.lose_profile (hd : Head) (c : LossCause) (x : BitVec 16) : (Head.lose c x hd).profile = hd.profile := rfl
@[simp] theorem Head.lose_setup (hd : Head) (c : LossCause) (x : BitVec 16) : (Head.lose c x hd).setup = hd.setup := rfl
@[simp] theorem Head.lose_generation (hd : Head) (c : LossCause) (x : BitVec 16) : (Head.lose c x hd).generation = hd.generation := rfl
@[simp] theorem Head.lose_events (hd : Head) (c : LossCause) (x : BitVec 16) : (Head.lose c x hd).events = hd.events := rfl
@[simp] theorem Head.lose_mask (hd : Head) (c : LossCause) (x : BitVec 16) : (Head.lose c x hd).mask = hd.mask := rfl
@[simp] theorem Head.lose_supplyGood (hd : Head) (c : LossCause) (x : BitVec 16) : (Head.lose c x hd).supplyGood = hd.supplyGood := rfl
@[simp] theorem Head.lose_fenceTimer (hd : Head) (c : LossCause) (x : BitVec 16) : (Head.lose c x hd).fenceTimer = hd.fenceTimer := rfl
@[simp] theorem Head.lose_laneSignal (hd : Head) (c : LossCause) (x : BitVec 16) : (Head.lose c x hd).laneSignal = hd.laneSignal := rfl
@[simp] theorem Head.lose_probeWaiting (hd : Head) (c : LossCause) (x : BitVec 16) : (Head.lose c x hd).probeWaiting = hd.probeWaiting := rfl
@[simp] theorem Head.lose_roundTripTimer (hd : Head) (c : LossCause) (x : BitVec 16) : (Head.lose c x hd).roundTripTimer = hd.roundTripTimer := rfl
@[simp] theorem Head.lose_slot (hd : Head) (c : LossCause) (x : BitVec 16) : (Head.lose c x hd).slot = hd.slot := rfl
@[simp] theorem Head.lose_laneBuffer (hd : Head) (c : LossCause) (x : BitVec 16) : (Head.lose c x hd).laneBuffer = hd.laneBuffer := rfl
@[simp] theorem Head.lose_reception (hd : Head) (c : LossCause) (x : BitVec 16) : (Head.lose c x hd).reception = hd.reception := rfl
@[simp] theorem Head.lose_laneHeld (hd : Head) (c : LossCause) (x : BitVec 16) : (Head.lose c x hd).laneHeld = hd.laneHeld := rfl
@[simp] theorem Head.lose_transmitting (hd : Head) (c : LossCause) (x : BitVec 16) : (Head.lose c x hd).transmitting = hd.transmitting := rfl
@[simp] theorem Head.lose_laneOut (hd : Head) (c : LossCause) (x : BitVec 16) : (Head.lose c x hd).laneOut = hd.laneOut := rfl
@[simp] theorem Head.lose_sendQueue (hd : Head) (c : LossCause) (x : BitVec 16) : (Head.lose c x hd).sendQueue = hd.sendQueue := rfl
@[simp] theorem Head.lose_tracking (hd : Head) (c : LossCause) (x : BitVec 16) : (Head.lose c x hd).tracking = hd.tracking := rfl
@[simp] theorem Head.lose_tagCounter (hd : Head) (c : LossCause) (x : BitVec 16) : (Head.lose c x hd).tagCounter = hd.tagCounter := rfl
@[simp] theorem Head.lose_strays (hd : Head) (c : LossCause) (x : BitVec 16) : (Head.lose c x hd).strays = hd.strays := rfl
@[simp] theorem Head.lose_geometry (hd : Head) (c : LossCause) (x : BitVec 16) : (Head.lose c x hd).geometry = hd.geometry := rfl
@[simp] theorem Head.lose_windows (hd : Head) (c : LossCause) (x : BitVec 16) : (Head.lose c x hd).windows = hd.windows := rfl
@[simp] theorem Head.lose_capture (hd : Head) (c : LossCause) (x : BitVec 16) : (Head.lose c x hd).capture = hd.capture := rfl
@[simp] theorem Head.lose_logArmed (hd : Head) (c : LossCause) (x : BitVec 16) : (Head.lose c x hd).logArmed = hd.logArmed := rfl
@[simp] theorem Head.lose_vectorIndex (hd : Head) (c : LossCause) (x : BitVec 16) : (Head.lose c x hd).vectorIndex = hd.vectorIndex := rfl
@[simp] theorem Head.lose_skipped (hd : Head) (c : LossCause) (x : BitVec 16) : (Head.lose c x hd).skipped = hd.skipped := rfl
@[simp] theorem Head.lose_blocks (hd : Head) (c : LossCause) (x : BitVec 16) : (Head.lose c x hd).blocks = hd.blocks := rfl
@[simp] theorem Head.lose_log (hd : Head) (c : LossCause) (x : BitVec 16) : (Head.lose c x hd).log = hd.log := rfl
@[simp] theorem Head.lose_overrun (hd : Head) (c : LossCause) (x : BitVec 16) : (Head.lose c x hd).overrun = hd.overrun := rfl

@[simp] theorem Head.site_set_blocks (hd : Head) (x) (i : SiteId) : Head.site { hd with blocks := x } i = hd.site i := rfl
@[simp] theorem Head.block_set_sites (hd : Head) (x) (i : SiteId) (b : BlockId) : Head.block { hd with sites := x } i b = hd.block i b := rfl
@[simp] theorem Head.block_updSite (hd : Head) (i : SiteId) (f : Site → Site) (j : SiteId) (c : BlockId) :
    (hd.updSite i f).block j c = hd.block j c := rfl
@[simp] theorem Head.block_mapSites (hd : Head) (f : SiteId → Site → Site) (j : SiteId) (c : BlockId) :
    (hd.mapSites f).block j c = hd.block j c := rfl
@[simp] theorem Head.block_finalise (hd : Head) (p : SiteId → Bool) (j : SiteId) (c : BlockId) :
    (hd.finalise p).block j c = hd.block j c := rfl
@[simp] theorem Head.block_lose (hd : Head) (k : LossCause) (x : BitVec 16) (j : SiteId) (c : BlockId) :
    (Head.lose k x hd).block j c = hd.block j c := rfl
@[simp] theorem Head.site_mapBlocks (hd : Head) (f : SiteId → BlockId → Block → Block) (j : SiteId) : (hd.mapBlocks f).site j = hd.site j := rfl
@[simp] theorem Head.site_setBlock (hd : Head) (i : SiteId) (b : BlockId) (x : Block) (j : SiteId) : (hd.setBlock i b x).site j = hd.site j := rfl
@[simp] theorem Head.site_set_state (hd : Head) (x) (i : SiteId) : Head.site { hd with state := x } i = hd.site i := rfl
@[simp] theorem Head.site_set_phase (hd : Head) (x) (i : SiteId) : Head.site { hd with phase := x } i = hd.site i := rfl
@[simp] theorem Head.site_set_reason (hd : Head) (x) (i : SiteId) : Head.site { hd with reason := x } i = hd.site i := rfl
@[simp] theorem Head.site_set_classIndex (hd : Head) (x) (i : SiteId) : Head.site { hd with classIndex := x } i = hd.site i := rfl
@[simp] theorem Head.site_set_roundTrip (hd : Head) (x) (i : SiteId) : Head.site { hd with roundTrip := x } i = hd.site i := rfl
@[simp] theorem Head.site_set_resultWindow (hd : Head) (x) (i : SiteId) : Head.site { hd with resultWindow := x } i = hd.site i := rfl
@[simp] theorem Head.site_set_profile (hd : Head) (x) (i : SiteId) : Head.site { hd with profile := x } i = hd.site i := rfl
@[simp] theorem Head.site_set_setup (hd : Head) (x) (i : SiteId) : Head.site { hd with setup := x } i = hd.site i := rfl
@[simp] theorem Head.site_set_generation (hd : Head) (x) (i : SiteId) : Head.site { hd with generation := x } i = hd.site i := rfl
@[simp] theorem Head.site_set_events (hd : Head) (x) (i : SiteId) : Head.site { hd with events := x } i = hd.site i := rfl
@[simp] theorem Head.site_set_mask (hd : Head) (x) (i : SiteId) : Head.site { hd with mask := x } i = hd.site i := rfl
@[simp] theorem Head.site_set_supplyGood (hd : Head) (x) (i : SiteId) : Head.site { hd with supplyGood := x } i = hd.site i := rfl
@[simp] theorem Head.site_set_fenceTimer (hd : Head) (x) (i : SiteId) : Head.site { hd with fenceTimer := x } i = hd.site i := rfl
@[simp] theorem Head.site_set_laneSignal (hd : Head) (x) (i : SiteId) : Head.site { hd with laneSignal := x } i = hd.site i := rfl
@[simp] theorem Head.site_set_probeWaiting (hd : Head) (x) (i : SiteId) : Head.site { hd with probeWaiting := x } i = hd.site i := rfl
@[simp] theorem Head.site_set_roundTripTimer (hd : Head) (x) (i : SiteId) : Head.site { hd with roundTripTimer := x } i = hd.site i := rfl
@[simp] theorem Head.site_set_slot (hd : Head) (x) (i : SiteId) : Head.site { hd with slot := x } i = hd.site i := rfl
@[simp] theorem Head.site_set_laneBuffer (hd : Head) (x) (i : SiteId) : Head.site { hd with laneBuffer := x } i = hd.site i := rfl
@[simp] theorem Head.site_set_reception (hd : Head) (x) (i : SiteId) : Head.site { hd with reception := x } i = hd.site i := rfl
@[simp] theorem Head.site_set_laneHeld (hd : Head) (x) (i : SiteId) : Head.site { hd with laneHeld := x } i = hd.site i := rfl
@[simp] theorem Head.site_set_transmitting (hd : Head) (x) (i : SiteId) : Head.site { hd with transmitting := x } i = hd.site i := rfl
@[simp] theorem Head.site_set_laneOut (hd : Head) (x) (i : SiteId) : Head.site { hd with laneOut := x } i = hd.site i := rfl
@[simp] theorem Head.site_set_sendQueue (hd : Head) (x) (i : SiteId) : Head.site { hd with sendQueue := x } i = hd.site i := rfl
@[simp] theorem Head.site_set_tracking (hd : Head) (x) (i : SiteId) : Head.site { hd with tracking := x } i = hd.site i := rfl
@[simp] theorem Head.site_set_tagCounter (hd : Head) (x) (i : SiteId) : Head.site { hd with tagCounter := x } i = hd.site i := rfl
@[simp] theorem Head.site_set_strays (hd : Head) (x) (i : SiteId) : Head.site { hd with strays := x } i = hd.site i := rfl
@[simp] theorem Head.site_set_geometry (hd : Head) (x) (i : SiteId) : Head.site { hd with geometry := x } i = hd.site i := rfl
@[simp] theorem Head.site_set_windows (hd : Head) (x) (i : SiteId) : Head.site { hd with windows := x } i = hd.site i := rfl
@[simp] theorem Head.site_set_capture (hd : Head) (x) (i : SiteId) : Head.site { hd with capture := x } i = hd.site i := rfl
@[simp] theorem Head.site_set_logArmed (hd : Head) (x) (i : SiteId) : Head.site { hd with logArmed := x } i = hd.site i := rfl
@[simp] theorem Head.site_set_vectorIndex (hd : Head) (x) (i : SiteId) : Head.site { hd with vectorIndex := x } i = hd.site i := rfl
@[simp] theorem Head.site_set_skipped (hd : Head) (x) (i : SiteId) : Head.site { hd with skipped := x } i = hd.site i := rfl

@[simp] theorem Head.site_set_log (hd : Head) (x) (i : SiteId) : Head.site { hd with log := x } i = hd.site i := rfl
@[simp] theorem Head.site_set_overrun (hd : Head) (x) (i : SiteId) : Head.site { hd with overrun := x } i = hd.site i := rfl
@[simp] theorem Head.block_set_state (hd : Head) (x) (i : SiteId) (b : BlockId) :
    Head.block { hd with state := x } i b = hd.block i b := rfl
@[simp] theorem Head.block_set_phase (hd : Head) (x) (i : SiteId) (b : BlockId) :
    Head.block { hd with phase := x } i b = hd.block i b := rfl
@[simp] theorem Head.block_set_reason (hd : Head) (x) (i : SiteId) (b : BlockId) :
    Head.block { hd with reason := x } i b = hd.block i b := rfl
@[simp] theorem Head.block_set_classIndex (hd : Head) (x) (i : SiteId) (b : BlockId) :
    Head.block { hd with classIndex := x } i b = hd.block i b := rfl
@[simp] theorem Head.block_set_roundTrip (hd : Head) (x) (i : SiteId) (b : BlockId) :
    Head.block { hd with roundTrip := x } i b = hd.block i b := rfl
@[simp] theorem Head.block_set_resultWindow (hd : Head) (x) (i : SiteId) (b : BlockId) :
    Head.block { hd with resultWindow := x } i b = hd.block i b := rfl
@[simp] theorem Head.block_set_profile (hd : Head) (x) (i : SiteId) (b : BlockId) :
    Head.block { hd with profile := x } i b = hd.block i b := rfl
@[simp] theorem Head.block_set_setup (hd : Head) (x) (i : SiteId) (b : BlockId) :
    Head.block { hd with setup := x } i b = hd.block i b := rfl
@[simp] theorem Head.block_set_generation (hd : Head) (x) (i : SiteId) (b : BlockId) :
    Head.block { hd with generation := x } i b = hd.block i b := rfl
@[simp] theorem Head.block_set_events (hd : Head) (x) (i : SiteId) (b : BlockId) :
    Head.block { hd with events := x } i b = hd.block i b := rfl
@[simp] theorem Head.block_set_mask (hd : Head) (x) (i : SiteId) (b : BlockId) :
    Head.block { hd with mask := x } i b = hd.block i b := rfl
@[simp] theorem Head.block_set_supplyGood (hd : Head) (x) (i : SiteId) (b : BlockId) :
    Head.block { hd with supplyGood := x } i b = hd.block i b := rfl
@[simp] theorem Head.block_set_fenceTimer (hd : Head) (x) (i : SiteId) (b : BlockId) :
    Head.block { hd with fenceTimer := x } i b = hd.block i b := rfl
@[simp] theorem Head.block_set_laneSignal (hd : Head) (x) (i : SiteId) (b : BlockId) :
    Head.block { hd with laneSignal := x } i b = hd.block i b := rfl
@[simp] theorem Head.block_set_probeWaiting (hd : Head) (x) (i : SiteId) (b : BlockId) :
    Head.block { hd with probeWaiting := x } i b = hd.block i b := rfl
@[simp] theorem Head.block_set_roundTripTimer (hd : Head) (x) (i : SiteId) (b : BlockId) :
    Head.block { hd with roundTripTimer := x } i b = hd.block i b := rfl
@[simp] theorem Head.block_set_slot (hd : Head) (x) (i : SiteId) (b : BlockId) :
    Head.block { hd with slot := x } i b = hd.block i b := rfl
@[simp] theorem Head.block_set_laneBuffer (hd : Head) (x) (i : SiteId) (b : BlockId) :
    Head.block { hd with laneBuffer := x } i b = hd.block i b := rfl
@[simp] theorem Head.block_set_reception (hd : Head) (x) (i : SiteId) (b : BlockId) :
    Head.block { hd with reception := x } i b = hd.block i b := rfl
@[simp] theorem Head.block_set_laneHeld (hd : Head) (x) (i : SiteId) (b : BlockId) :
    Head.block { hd with laneHeld := x } i b = hd.block i b := rfl
@[simp] theorem Head.block_set_transmitting (hd : Head) (x) (i : SiteId) (b : BlockId) :
    Head.block { hd with transmitting := x } i b = hd.block i b := rfl
@[simp] theorem Head.block_set_laneOut (hd : Head) (x) (i : SiteId) (b : BlockId) :
    Head.block { hd with laneOut := x } i b = hd.block i b := rfl
@[simp] theorem Head.block_set_sendQueue (hd : Head) (x) (i : SiteId) (b : BlockId) :
    Head.block { hd with sendQueue := x } i b = hd.block i b := rfl
@[simp] theorem Head.block_set_tracking (hd : Head) (x) (i : SiteId) (b : BlockId) :
    Head.block { hd with tracking := x } i b = hd.block i b := rfl
@[simp] theorem Head.block_set_tagCounter (hd : Head) (x) (i : SiteId) (b : BlockId) :
    Head.block { hd with tagCounter := x } i b = hd.block i b := rfl
@[simp] theorem Head.block_set_strays (hd : Head) (x) (i : SiteId) (b : BlockId) :
    Head.block { hd with strays := x } i b = hd.block i b := rfl
@[simp] theorem Head.block_set_geometry (hd : Head) (x) (i : SiteId) (b : BlockId) :
    Head.block { hd with geometry := x } i b = hd.block i b := rfl
@[simp] theorem Head.block_set_windows (hd : Head) (x) (i : SiteId) (b : BlockId) :
    Head.block { hd with windows := x } i b = hd.block i b := rfl
@[simp] theorem Head.block_set_capture (hd : Head) (x) (i : SiteId) (b : BlockId) :
    Head.block { hd with capture := x } i b = hd.block i b := rfl
@[simp] theorem Head.block_set_logArmed (hd : Head) (x) (i : SiteId) (b : BlockId) :
    Head.block { hd with logArmed := x } i b = hd.block i b := rfl
@[simp] theorem Head.block_set_vectorIndex (hd : Head) (x) (i : SiteId) (b : BlockId) :
    Head.block { hd with vectorIndex := x } i b = hd.block i b := rfl
@[simp] theorem Head.block_set_skipped (hd : Head) (x) (i : SiteId) (b : BlockId) :
    Head.block { hd with skipped := x } i b = hd.block i b := rfl
@[simp] theorem Head.block_set_log (hd : Head) (x) (i : SiteId) (b : BlockId) :
    Head.block { hd with log := x } i b = hd.block i b := rfl
@[simp] theorem Head.block_set_overrun (hd : Head) (x) (i : SiteId) (b : BlockId) :
    Head.block { hd with overrun := x } i b = hd.block i b := rfl

end Sys2Proof.Machine
end

