-- ==== Sys2Proof/Laws/Ops.lean ====
section
/-! SUPPORT. One lemma for each shared operation that says what it does, and the small lemmas of what it leaves. -/

namespace Sys2Proof.Machine

/-! ### Requests (R8, R9) -/

@[simp] theorem State.head_take (s : State) (r : Request) (rest : List Request) (h : HeadId) :
    (s.take r rest).head h = s.head h := rfl

/-- The acceptance condition of a form reads the heads alone. -/
theorem RequestForm.accepted_take (form : RequestForm) (s : State) (r q : Request) (rest : List Request) :
    form.accepted (s.take r rest) q.head = form.accepted s q.head := by cases form <;> rfl

theorem Request.check_take (q r : Request) (s : State) (rest : List Request) :
    q.check (s.take r rest) = q.check s := by
  simp only [Request.check, RequestForm.accepted_take]

theorem State.ready_canTake {s : State} {r : Request} {rest : List Request} (h : s.ready r rest) :
    s.canTake = true := by
  obtain ⟨-, he, hl, hu⟩ := h
  simp [State.canTake, State.freeSlots, he, hl]
  omega

theorem Request.check_of_passes {r : Request} {form : RequestForm} {s : State} (h : r.passes form s) :
    r.check s = none := by
  obtain ⟨hf, hu, hl, hi, ha⟩ := h
  subst hf
  simp only [Request.check, hu, hl, ne_eq, not_true_eq_false, if_false]
  have : (r.form.indices.any fun p => decide (p.2 ≤ (r.arg p.1).toNat)) = false := by
    simpa [List.any_eq_false] using fun a b hp => hi (a, b) hp
  simp [this, ha]

/-- A request that passes its checks is executed by its owner's action. -/
theorem State.execute_passes {s : State} {r : Request} {rest : List Request} {form : RequestForm}
    (act : Request → State → State) (hr : s.ready r rest) (hp : r.passes form s) :
    s.execute form act = act r (s.take r rest) := by
  simp only [State.execute, hr.1, State.ready_canTake hr, hp.1, and_self, if_true, Request.check_take,
    Request.check_of_passes hp]

/-- The reply to the request just taken, when its execution has changed nothing else. -/
theorem State.reply_take {s : State} {r : Request} {rest : List Request} (hr : s.ready r rest) (st : Status)
    (body : ReplyBody) : (s.take r rest).reply st body = s.answered r rest st body := by
  have he := hr.2.1
  cases s
  simp only at he
  subst he
  rfl

/-- A request that fails a check is answered by the check's status, and nothing else changes (R9). -/
theorem State.execute_fails {s : State} {r : Request} {rest : List Request} {st : Status}
    (act : Request → State → State) (hr : s.ready r rest) (hc : r.check s = some st) :
    s.execute r.form act = s.answered r rest st .empty := by
  simp only [State.execute, hr.1, State.ready_canTake hr, and_self, if_true, Request.check_take, hc]
  exact State.reply_take hr st .empty

/-! ### The units of a lane (R163) -/

/-- Which type bytes name a unit, and which unit. -/
theorem upstreamUnit_eq_some_iff (kind : Byte) (u : UpstreamUnit) :
    upstreamUnit kind = some u ↔
      (kind = 0x20 ∧ u = .resultRecord) ∨ (kind = 0x21 ∧ u = .echo) ∨ (kind = 0x22 ∧ u = .maintAnswer) := by
  unfold upstreamUnit
  split
  · subst kind; cases u <;> simp
  · split
    · subst kind; cases u <;> simp
    · split
      · subst kind; cases u <;> simp
      · simp_all

/-- The type bytes that name no unit. -/
theorem upstreamUnit_eq_none_iff (kind : Byte) :
    upstreamUnit kind = none ↔ kind ≠ 0x20 ∧ kind ≠ 0x21 ∧ kind ≠ 0x22 := by
  unfold upstreamUnit
  split <;> [skip; split <;> [skip; split]] <;> simp_all

/-- A known unit is one of the three types. -/
theorem knownUnit_eq_true_iff (kind : Byte) : knownUnit kind = true ↔ kind = 0x20 ∨ kind = 0x21 ∨ kind = 0x22 := by
  simp only [knownUnit, Option.isSome_iff_ne_none, ne_eq, upstreamUnit_eq_none_iff, not_and_or, not_not]

/-! ### Notices and events (R13, R153, R154) -/

@[simp] theorem State.offerNotice_link (s : State) (h : HeadId) : (s.offerNotice h).link = s.link := by
  unfold State.offerNotice; split <;> rfl
@[simp] theorem State.offerNotice_failureRun (s : State) (h : HeadId) : (s.offerNotice h).failureRun = s.failureRun := by
  unfold State.offerNotice; split <;> rfl
@[simp] theorem State.offerNotice_expected (s : State) (h : HeadId) : (s.offerNotice h).expected = s.expected := by
  unfold State.offerNotice; split <;> rfl
@[simp] theorem State.offerNotice_crcDiscards (s : State) (h : HeadId) : (s.offerNotice h).crcDiscards = s.crcDiscards := by
  unfold State.offerNotice; split <;> rfl
@[simp] theorem State.offerNotice_requestDrops (s : State) (h : HeadId) : (s.offerNotice h).requestDrops = s.requestDrops := by
  unfold State.offerNotice; split <;> rfl
@[simp] theorem State.offerNotice_requests (s : State) (h : HeadId) : (s.offerNotice h).requests = s.requests := by
  unfold State.offerNotice; split <;> rfl
@[simp] theorem State.offerNotice_executing (s : State) (h : HeadId) : (s.offerNotice h).executing = s.executing := by
  unfold State.offerNotice; split <;> rfl
@[simp] theorem State.offerNotice_reservations (s : State) (h : HeadId) : (s.offerNotice h).reservations = s.reservations := by
  unfold State.offerNotice; split <;> rfl
@[simp] theorem State.offerNotice_linkOut (s : State) (h : HeadId) : (s.offerNotice h).linkOut = s.linkOut := by
  unfold State.offerNotice; split <;> rfl
@[simp] theorem State.offerNotice_markers (s : State) (h : HeadId) : (s.offerNotice h).markers = s.markers := by
  unfold State.offerNotice; split <;> rfl
@[simp] theorem State.offerNotice_latency (s : State) (h : HeadId) : (s.offerNotice h).latency = s.latency := by
  unfold State.offerNotice; split <;> rfl
@[simp] theorem State.offerNotice_heads (s : State) (h : HeadId) : (s.offerNotice h).heads = s.heads := by
  unfold State.offerNotice; split <;> rfl
@[simp] theorem State.offerNotice_analysis (s : State) (h : HeadId) : (s.offerNotice h).analysis = s.analysis := by
  unfold State.offerNotice; split <;> rfl
@[simp] theorem State.offerNotice_solveList (s : State) (h : HeadId) : (s.offerNotice h).solveList = s.solveList := by
  unfold State.offerNotice; split <;> rfl
@[simp] theorem State.offerNotice_engine (s : State) (h : HeadId) : (s.offerNotice h).engine = s.engine := by
  unfold State.offerNotice; split <;> rfl
@[simp] theorem State.offerNotice_arbiterCount (s : State) (h : HeadId) : (s.offerNotice h).arbiterCount = s.arbiterCount := by
  unfold State.offerNotice; split <;> rfl
@[simp] theorem State.offerNotice_freeCount (s : State) (h : HeadId) : (s.offerNotice h).freeCount = s.freeCount := by
  unfold State.offerNotice; split <;> rfl
@[simp] theorem State.offerNotice_pending (s : State) (h : HeadId) : (s.offerNotice h).pending = s.pending := by
  unfold State.offerNotice; split <;> rfl

@[simp] theorem State.head_offerNotice (s : State) (h k : HeadId) : (s.offerNotice h).head k = s.head k := by
  simp [State.head]

@[simp] theorem State.raise_link (s : State) (h : HeadId) (e : HeadEvent) : (s.raise h e).link = s.link := by
  unfold State.raise; split <;> [rfl; (dsimp only; split <;> simp)]
@[simp] theorem State.raise_failureRun (s : State) (h : HeadId) (e : HeadEvent) : (s.raise h e).failureRun = s.failureRun := by
  unfold State.raise; split <;> [rfl; (dsimp only; split <;> simp)]
@[simp] theorem State.raise_expected (s : State) (h : HeadId) (e : HeadEvent) : (s.raise h e).expected = s.expected := by
  unfold State.raise; split <;> [rfl; (dsimp only; split <;> simp)]
@[simp] theorem State.raise_crcDiscards (s : State) (h : HeadId) (e : HeadEvent) : (s.raise h e).crcDiscards = s.crcDiscards := by
  unfold State.raise; split <;> [rfl; (dsimp only; split <;> simp)]
@[simp] theorem State.raise_requestDrops (s : State) (h : HeadId) (e : HeadEvent) : (s.raise h e).requestDrops = s.requestDrops := by
  unfold State.raise; split <;> [rfl; (dsimp only; split <;> simp)]
@[simp] theorem State.raise_requests (s : State) (h : HeadId) (e : HeadEvent) : (s.raise h e).requests = s.requests := by
  unfold State.raise; split <;> [rfl; (dsimp only; split <;> simp)]
@[simp] theorem State.raise_executing (s : State) (h : HeadId) (e : HeadEvent) : (s.raise h e).executing = s.executing := by
  unfold State.raise; split <;> [rfl; (dsimp only; split <;> simp)]
@[simp] theorem State.raise_reservations (s : State) (h : HeadId) (e : HeadEvent) : (s.raise h e).reservations = s.reservations := by
  unfold State.raise; split <;> [rfl; (dsimp only; split <;> simp)]
@[simp] theorem State.raise_linkOut (s : State) (h : HeadId) (e : HeadEvent) : (s.raise h e).linkOut = s.linkOut := by
  unfold State.raise; split <;> [rfl; (dsimp only; split <;> simp)]
@[simp] theorem State.raise_markers (s : State) (h : HeadId) (e : HeadEvent) : (s.raise h e).markers = s.markers := by
  unfold State.raise; split <;> [rfl; (dsimp only; split <;> simp)]
@[simp] theorem State.raise_latency (s : State) (h : HeadId) (e : HeadEvent) : (s.raise h e).latency = s.latency := by
  unfold State.raise; split <;> [rfl; (dsimp only; split <;> simp)]
@[simp] theorem State.raise_analysis (s : State) (h : HeadId) (e : HeadEvent) : (s.raise h e).analysis = s.analysis := by
  unfold State.raise; split <;> [rfl; (dsimp only; split <;> simp)]
@[simp] theorem State.raise_solveList (s : State) (h : HeadId) (e : HeadEvent) : (s.raise h e).solveList = s.solveList := by
  unfold State.raise; split <;> [rfl; (dsimp only; split <;> simp)]
@[simp] theorem State.raise_engine (s : State) (h : HeadId) (e : HeadEvent) : (s.raise h e).engine = s.engine := by
  unfold State.raise; split <;> [rfl; (dsimp only; split <;> simp)]
@[simp] theorem State.raise_arbiterCount (s : State) (h : HeadId) (e : HeadEvent) : (s.raise h e).arbiterCount = s.arbiterCount := by
  unfold State.raise; split <;> [rfl; (dsimp only; split <;> simp)]
@[simp] theorem State.raise_freeCount (s : State) (h : HeadId) (e : HeadEvent) : (s.raise h e).freeCount = s.freeCount := by
  unfold State.raise; split <;> [rfl; (dsimp only; split <;> simp)]
@[simp] theorem State.raise_pending (s : State) (h : HeadId) (e : HeadEvent) : (s.raise h e).pending = s.pending := by
  unfold State.raise; split <;> [rfl; (dsimp only; split <;> simp)]

/-- An event that is set already adds nothing. -/
theorem HeadEvent.or_bit_of_isIn {e : HeadEvent} {set : BitVec 8} (h : e.isIn set = true) : set ||| e.bit = set := by
  have key : ∀ (e : HeadEvent) (x : BitVec 8), e.isIn x = true → x ||| e.bit = x := by
    intro e
    cases e <;> decide
  exact key e set h

/-- The head on which an event is raised: the event is in its set, and nothing else of it has changed. -/
theorem State.head_raise_self (s : State) (h : HeadId) (e : HeadEvent) :
    (s.raise h e).head h = { s.head h with events := (s.head h).events ||| e.bit } := by
  unfold State.raise
  split
  · rename_i hin
    rw [HeadEvent.or_bit_of_isIn hin]
  · dsimp only
    split <;> simp

theorem State.head_raise_ne (s : State) {h k : HeadId} (e : HeadEvent) (hk : k ≠ h) :
    (s.raise h e).head k = s.head k := by
  unfold State.raise
  split
  · rfl
  · dsimp only
    split <;> simp [State.head_updHead_ne _ _ hk]

/-! ### Loss causes (R56) -/

@[simp] theorem State.lose_link (s : State) (h : HeadId) (c : LossCause) (x : BitVec 16) (e : HeadEvent) :
    (s.lose h c x e).link = s.link := by simp [State.lose]
@[simp] theorem State.lose_failureRun (s : State) (h : HeadId) (c : LossCause) (x : BitVec 16) (e : HeadEvent) :
    (s.lose h c x e).failureRun = s.failureRun := by simp [State.lose]
@[simp] theorem State.lose_expected (s : State) (h : HeadId) (c : LossCause) (x : BitVec 16) (e : HeadEvent) :
    (s.lose h c x e).expected = s.expected := by simp [State.lose]
@[simp] theorem State.lose_crcDiscards (s : State) (h : HeadId) (c : LossCause) (x : BitVec 16) (e : HeadEvent) :
    (s.lose h c x e).crcDiscards = s.crcDiscards := by simp [State.lose]
@[simp] theorem State.lose_requestDrops (s : State) (h : HeadId) (c : LossCause) (x : BitVec 16) (e : HeadEvent) :
    (s.lose h c x e).requestDrops = s.requestDrops := by simp [State.lose]
@[simp] theorem State.lose_requests (s : State) (h : HeadId) (c : LossCause) (x : BitVec 16) (e : HeadEvent) :
    (s.lose h c x e).requests = s.requests := by simp [State.lose]
@[simp] theorem State.lose_executing (s : State) (h : HeadId) (c : LossCause) (x : BitVec 16) (e : HeadEvent) :
    (s.lose h c x e).executing = s.executing := by simp [State.lose]
@[simp] theorem State.lose_reservations (s : State) (h : HeadId) (c : LossCause) (x : BitVec 16) (e : HeadEvent) :
    (s.lose h c x e).reservations = s.reservations := by simp [State.lose]
@[simp] theorem State.lose_linkOut (s : State) (h : HeadId) (c : LossCause) (x : BitVec 16) (e : HeadEvent) :
    (s.lose h c x e).linkOut = s.linkOut := by simp [State.lose]
@[simp] theorem State.lose_markers (s : State) (h : HeadId) (c : LossCause) (x : BitVec 16) (e : HeadEvent) :
    (s.lose h c x e).markers = s.markers := by simp [State.lose]
@[simp] theorem State.lose_latency (s : State) (h : HeadId) (c : LossCause) (x : BitVec 16) (e : HeadEvent) :
    (s.lose h c x e).latency = s.latency := by simp [State.lose]
@[simp] theorem State.lose_analysis (s : State) (h : HeadId) (c : LossCause) (x : BitVec 16) (e : HeadEvent) :
    (s.lose h c x e).analysis = s.analysis := by simp [State.lose]
@[simp] theorem State.lose_solveList (s : State) (h : HeadId) (c : LossCause) (x : BitVec 16) (e : HeadEvent) :
    (s.lose h c x e).solveList = s.solveList := by simp [State.lose]
@[simp] theorem State.lose_engine (s : State) (h : HeadId) (c : LossCause) (x : BitVec 16) (e : HeadEvent) :
    (s.lose h c x e).engine = s.engine := by simp [State.lose]
@[simp] theorem State.lose_arbiterCount (s : State) (h : HeadId) (c : LossCause) (x : BitVec 16) (e : HeadEvent) :
    (s.lose h c x e).arbiterCount = s.arbiterCount := by simp [State.lose]
@[simp] theorem State.lose_freeCount (s : State) (h : HeadId) (c : LossCause) (x : BitVec 16) (e : HeadEvent) :
    (s.lose h c x e).freeCount = s.freeCount := by simp [State.lose]
@[simp] theorem State.lose_pending (s : State) (h : HeadId) (c : LossCause) (x : BitVec 16) (e : HeadEvent) :
    (s.lose h c x e).pending = s.pending := by simp [State.lose]

theorem State.head_lose_self (s : State) (h : HeadId) (c : LossCause) (x : BitVec 16) (e : HeadEvent) :
    (s.lose h c x e).head h
      = { Head.lose c x (s.head h) with events := (s.head h).events ||| e.bit } := by
  rw [State.lose, State.head_raise_self, State.head_updHead_self]
  rfl

theorem State.head_lose_ne (s : State) {h k : HeadId} (c : LossCause) (x : BitVec 16) (e : HeadEvent) (hk : k ≠ h) :
    (s.lose h c x e).head k = s.head k := by
  rw [State.lose, State.head_raise_ne _ _ hk, State.head_updHead_ne _ _ hk]

/-- A loss cause is recorded on the enabled sites of the set that are not final, and nothing else of a site changes. -/
theorem Head.site_lose (hd : Head) (c : LossCause) (x : BitVec 16) (i : SiteId) :
    (Head.lose c x hd).site i
      = if x.getLsbD i.val = true ∧ (hd.site i).enabled = true ∧ (hd.site i).verdict.isFinal = false then
          { hd.site i with causes := (hd.site i).causes ||| c.bit }
        else hd.site i := by
  simp only [Head.lose, Head.site_mapSites, Site.lose]
  cases x.getLsbD i.val <;> cases (hd.site i).enabled <;> cases (hd.site i).verdict.isFinal <;> simp

/-! ### The Fail Log (R150) -/

@[simp] theorem State.appendLog_link (s : State) (h : HeadId) (e : LogEntry) : (s.appendLog h e).link = s.link := by
  unfold State.appendLog; split <;> simp
@[simp] theorem State.appendLog_failureRun (s : State) (h : HeadId) (e : LogEntry) : (s.appendLog h e).failureRun = s.failureRun := by
  unfold State.appendLog; split <;> simp
@[simp] theorem State.appendLog_expected (s : State) (h : HeadId) (e : LogEntry) : (s.appendLog h e).expected = s.expected := by
  unfold State.appendLog; split <;> simp
@[simp] theorem State.appendLog_crcDiscards (s : State) (h : HeadId) (e : LogEntry) : (s.appendLog h e).crcDiscards = s.crcDiscards := by
  unfold State.appendLog; split <;> simp
@[simp] theorem State.appendLog_requestDrops (s : State) (h : HeadId) (e : LogEntry) : (s.appendLog h e).requestDrops = s.requestDrops := by
  unfold State.appendLog; split <;> simp
@[simp] theorem State.appendLog_requests (s : State) (h : HeadId) (e : LogEntry) : (s.appendLog h e).requests = s.requests := by
  unfold State.appendLog; split <;> simp
@[simp] theorem State.appendLog_executing (s : State) (h : HeadId) (e : LogEntry) : (s.appendLog h e).executing = s.executing := by
  unfold State.appendLog; split <;> simp
@[simp] theorem State.appendLog_reservations (s : State) (h : HeadId) (e : LogEntry) : (s.appendLog h e).reservations = s.reservations := by
  unfold State.appendLog; split <;> simp
@[simp] theorem State.appendLog_linkOut (s : State) (h : HeadId) (e : LogEntry) : (s.appendLog h e).linkOut = s.linkOut := by
  unfold State.appendLog; split <;> simp
@[simp] theorem State.appendLog_markers (s : State) (h : HeadId) (e : LogEntry) : (s.appendLog h e).markers = s.markers := by
  unfold State.appendLog; split <;> simp
@[simp] theorem State.appendLog_latency (s : State) (h : HeadId) (e : LogEntry) : (s.appendLog h e).latency = s.latency := by
  unfold State.appendLog; split <;> simp
@[simp] theorem State.appendLog_analysis (s : State) (h : HeadId) (e : LogEntry) : (s.appendLog h e).analysis = s.analysis := by
  unfold State.appendLog; split <;> simp
@[simp] theorem State.appendLog_solveList (s : State) (h : HeadId) (e : LogEntry) : (s.appendLog h e).solveList = s.solveList := by
  unfold State.appendLog; split <;> simp
@[simp] theorem State.appendLog_engine (s : State) (h : HeadId) (e : LogEntry) : (s.appendLog h e).engine = s.engine := by
  unfold State.appendLog; split <;> simp
@[simp] theorem State.appendLog_arbiterCount (s : State) (h : HeadId) (e : LogEntry) : (s.appendLog h e).arbiterCount = s.arbiterCount := by
  unfold State.appendLog; split <;> simp
@[simp] theorem State.appendLog_freeCount (s : State) (h : HeadId) (e : LogEntry) : (s.appendLog h e).freeCount = s.freeCount := by
  unfold State.appendLog; split <;> simp
@[simp] theorem State.appendLog_pending (s : State) (h : HeadId) (e : LogEntry) : (s.appendLog h e).pending = s.pending := by
  unfold State.appendLog; split <;> simp

theorem State.head_appendLog_ne (s : State) {h k : HeadId} (e : LogEntry) (hk : k ≠ h) :
    (s.appendLog h e).head k = s.head k := by
  unfold State.appendLog
  split
  · exact State.head_updHead_ne _ _ hk
  · rw [State.head_raise_ne _ _ hk, State.head_updHead_ne _ _ hk]

theorem State.head_appendLog_room {s : State} {h : HeadId} (e : LogEntry)
    (hr : (s.head h).log.length < Config.failLogSize) :
    (s.appendLog h e).head h = { s.head h with log := (s.head h).log ++ [e] } := by
  simp [State.appendLog, hr]

/-! ### Final sites (R58, R59) -/

/-- A site becomes final by the verdict order when it is chosen and not final; else it is left as it is. -/
theorem Head.site_finalise (hd : Head) (p : SiteId → Bool) (i : SiteId) :
    (hd.finalise p).site i
      = if p i = true ∧ (hd.site i).verdict.isFinal = false then
          { hd.site i with verdict := verdictOf (hd.site i) hd.blocks[i] }
        else hd.site i := by
  simp only [Head.finalise, Head.site_mapSites]
  cases p i <;> cases (hd.site i).verdict.isFinal <;> simp

/-- The verdict order gives a final verdict (R58). -/
theorem verdictOf_isFinal (st : Site) (bs : Vector Block 16) : (verdictOf st bs).isFinal = true := by
  unfold verdictOf
  split
  · rfl
  split
  · rfl
  split
  · rfl
  split <;> rfl

/-! ### The end of draining (R48, R49) -/

/-- The drain test ends draining exactly when the condition of R48 holds. -/
theorem State.testDrain_cases (s : State) (h : HeadId) :
    (s.testDrain h = s.endDraining h ∧ (s.head h).state = .draining ∧ (s.head h).tracking = []
        ∧ s.itemsLive h = false)
      ∨ (s.testDrain h = s ∧ ¬ ((s.head h).state = .draining ∧ (s.head h).tracking = [] ∧ s.itemsLive h = false)) := by
  unfold State.testDrain
  split
  · rename_i h1
    exact Or.inl ⟨rfl, h1⟩
  · rename_i h1
    exact Or.inr ⟨rfl, h1⟩

/-! ### Time (R82) -/

@[simp] theorem State.elapse_link (s : State) (n : Nat) : (s.elapse n).link = s.link := rfl
@[simp] theorem State.elapse_failureRun (s : State) (n : Nat) : (s.elapse n).failureRun = s.failureRun := rfl
@[simp] theorem State.elapse_expected (s : State) (n : Nat) : (s.elapse n).expected = s.expected := rfl
@[simp] theorem State.elapse_crcDiscards (s : State) (n : Nat) : (s.elapse n).crcDiscards = s.crcDiscards := rfl
@[simp] theorem State.elapse_requestDrops (s : State) (n : Nat) : (s.elapse n).requestDrops = s.requestDrops := rfl
@[simp] theorem State.elapse_requests (s : State) (n : Nat) : (s.elapse n).requests = s.requests := rfl
@[simp] theorem State.elapse_executing (s : State) (n : Nat) : (s.elapse n).executing = s.executing := rfl
@[simp] theorem State.elapse_upstream (s : State) (n : Nat) : (s.elapse n).upstream = s.upstream := rfl
@[simp] theorem State.elapse_reservations (s : State) (n : Nat) : (s.elapse n).reservations = s.reservations := rfl
@[simp] theorem State.elapse_linkOut (s : State) (n : Nat) : (s.elapse n).linkOut = s.linkOut := rfl
@[simp] theorem State.elapse_markers (s : State) (n : Nat) : (s.elapse n).markers = s.markers := rfl
@[simp] theorem State.elapse_latency (s : State) (n : Nat) : (s.elapse n).latency = s.latency := rfl
@[simp] theorem State.elapse_analysis (s : State) (n : Nat) : (s.elapse n).analysis = s.analysis := rfl
@[simp] theorem State.elapse_solveList (s : State) (n : Nat) : (s.elapse n).solveList = s.solveList := rfl
@[simp] theorem State.elapse_engine (s : State) (n : Nat) : (s.elapse n).engine = s.engine := rfl
@[simp] theorem State.elapse_arbiterCount (s : State) (n : Nat) : (s.elapse n).arbiterCount = s.arbiterCount := rfl
@[simp] theorem State.elapse_freeCount (s : State) (n : Nat) : (s.elapse n).freeCount = s.freeCount := rfl
@[simp] theorem State.elapse_pending (s : State) (n : Nat) : (s.elapse n).pending = s.pending := rfl

@[simp] theorem State.head_elapse (s : State) (n : Nat) (h : HeadId) :
    (s.elapse n).head h = (s.head h).elapse n :=
  State.head_of_tabulate (t := s.elapse n) rfl h

/-! ### Several heads in an order that the manual leaves open (R61) -/

/-- What acting on several heads answers: the outcome of some order of them, but for the count of free values. -/
theorem State.inAnyOrder_mem (s : State) (hs : List HeadId) (f : State → HeadId → State) :
    ∃ o ∈ orders hs, ∃ n, s.inAnyOrder hs f = { o.foldl f s with freeCount := n } := by
  have horders : ∀ l : List HeadId, orders l ≠ [] := by
    intro l
    induction l with
    | nil => simp [orders]
    | cons x l ih =>
      obtain ⟨y, q, hq⟩ := List.exists_cons_of_ne_nil ih
      cases y <;> simp [orders, hq, insertions]
  unfold State.inAnyOrder
  obtain ⟨o, q, hq⟩ := List.exists_cons_of_ne_nil (horders hs)
  simp only [hq, List.map_cons]
  split
  · exact ⟨o, by simp, (o.foldl f s).freeCount, rfl⟩
  · generalize hk : Config.freeOrder s.freeCount
      % (o.foldl f s :: q.map (fun o => o.foldl f s)).length = k
    have hmem : (o.foldl f s :: q.map (fun o => o.foldl f s)).getD k (o.foldl f s)
        ∈ (o :: q).map (fun o => o.foldl f s) := by
      rw [List.getD_eq_getElem?_getD]
      cases hget : (o.foldl f s :: q.map (fun o => o.foldl f s))[k]? with
      | none => simp
      | some x =>
        have := List.mem_of_getElem? hget
        simpa using this
    obtain ⟨o', ho', he⟩ := List.mem_map.mp hmem
    exact ⟨o', ho', s.freeCount + 1, by rw [← he]⟩

end Sys2Proof.Machine
end

