-- ==== Sys2Proof/Tests/Slice0.lean ====
section
/-! SUPPORT. The model's own tests: the smoke test of `Instr.wellFormed`, a few commands against the manual's worked
examples, and for each statement that has hypotheses a witness that meets them. -/

namespace Sys2Proof.Tests

set_option Elab.async false

open Sys2Proof Sys2Proof.Machine

/-! ### The smoke test of well-formedness -/

/-- A REQUEST frame that passes its check (R159): DEVICE_STATUS with id 1. -/
def statusFrame : LinkFrame := .sealed 0x02 [0x01, 0x01]

/-- The stream that carries a frame twice, with idle fill before and between. -/
def twice (f : LinkFrame) : List LineSymbol :=
  .idle :: (f.bytes.map .byte ++ .idle :: .idle :: f.bytes.map .byte)

theorem test_wf_sync : (Instr.syncAcquisition (twice statusFrame)).wellFormed = true
    ∧ (Instr.syncAcquisition (statusFrame.bytes.map .byte)).wellFormed = false := by decide +kernel

theorem test_wf_length : (Instr.patternLinkLoss (.overlongLength 49)).wellFormed = true
    ∧ (Instr.patternLinkLoss (.overlongLength 48)).wellFormed = false := by decide +kernel

theorem test_wf_burst : (Instr.burst (.sealed 0x01 (List.replicate 11 0))).wellFormed = true
    ∧ (Instr.burst (.sealed 0x01 (List.replicate 12 0))).wellFormed = false
    ∧ (Instr.burst ⟨0x01, List.replicate 11 0, 0⟩).wellFormed = false := by decide +kernel

theorem test_wf_request : (Instr.requestFrame statusFrame).wellFormed = true
    ∧ (Instr.requestFrame (.sealed 0x03 [0x01, 0x01])).wellFormed = false
    ∧ (Instr.requestFrame (.sealed 0x02 (List.replicate 49 0))).wellFormed = false := by decide +kernel

theorem test_wf_malformed : (Instr.malformedFrame (.sealed 0x01 (List.replicate 12 0))).wellFormed = true
    ∧ (Instr.malformedFrame statusFrame).wellFormed = false := by decide +kernel

theorem test_wf_failed_check : (Instr.frameCheckFailure ⟨0x02, [0x01, 0x01], 0⟩).wellFormed = true
    ∧ (Instr.frameCheckFailure statusFrame).wellFormed = false := by decide +kernel

theorem test_wf_echo : (Instr.echo 0 16382).wellFormed = true ∧ (Instr.echo 0 16383).wellFormed = false := by
  decide +kernel

/-- The types of upstream units (R163): a record, an ECHO, a MAINT_ANSWER, and one that is none of them. -/
theorem test_unit_types : ∀ h : HeadId, commandOfUnit h 0x20 [9] = .resultRecord h [9]
    ∧ commandOfUnit h 0x21 [] = .echo h 0 ∧ commandOfUnit h 0x22 [0] = .maintAnswer h [0]
    ∧ commandOfUnit h 0x12 [1] = .unknownUnitDiscard h 0x12 [1] := by decide +kernel

theorem test_wf_unknown_unit : (Instr.unknownUnitDiscard 0 0x23 []).wellFormed = true
    ∧ (Instr.unknownUnitDiscard 0 0x22 []).wellFormed = false := by decide +kernel

/-! ### The frame check, and what a table word spells -/

/-- The check value over the nine characters "123456789" and its transmitted inverse (R159). -/
theorem test_frame_check : crcRegister (natBytes 9 0x313233343536373839) = 0x29B1
    ∧ frameCheck (natBytes 9 0x313233343536373839) = 0xD64E := by decide +kernel

/-- The rows of the table give no bits, so that no word spells a command (log entry 20). -/
theorem test_no_word_spells_a_command : decodeTableWord 8 1 = none ∧ State.reset.withFetchWord 8 1 = State.reset := by
  decide +kernel

/-! ### Small states -/

/-- The state that a command leaves; every command of the model answers a next state. -/
def after (c : Instr) (s : State) : State :=
  match exec c s with
  | .next t => t
  | .fault _ | .refused _ => s

/-- A synchronised part whose four heads are all `hd`. -/
def linked (hd : Head) : State := { State.reset with link := .inSync, heads := Vector.replicate 4 hd }

/-- A synchronised part with heads `hd` and one request waiting. -/
def asked (hd : Head) (r : Request) : State := { linked hd with requests := [r] }

/-- The tables of head H1 in section 6.7, and site S5 enabled with its four blocks open; the Fail Log takes
everything. -/
def workHead : Head :=
  { Head.reset with
    state := .testing, capture := true, generation := 23, resultWindow := 20
    profile := some ⟨16, 16, 7⟩
    setup := ⟨.none, .keepTesting, .always, 1, 8⟩
    geometry := ⟨true, 12, 8, 2, 8, 2, 2⟩
    windows := setAt (setAt (Vector.replicate 8 Window.reset) 0 ⟨true, 262144, 262144, 524288, 524288⟩) 1
      ⟨true, 0, 0, 0, 0⟩
    sites := setAt (Vector.replicate 16 Site.reset) 5
      ⟨true, true, true, false, .none, 0, 0, false, 0, true, .pending⟩
    blocks := setAt Head.idleBlocks 5 (tabulate (fun b => if b.val < 4 then Block.opened else Block.reset)) }

/-- The tracking entry of section 6.7, RUNNING. -/
def workEntry : TrackEntry := ⟨9, 1023, 254, 4, .colFast, 5000, 0x0020, false, .running 20⟩

/-- The unit of section 6.7 after its type byte, with tag 9 (chapter 10). -/
def workUnit : List Byte := [9, 1, 5, 0, 3, 0, 0x00, 0x01, 2, 0x00, 0x05, 3, 0x01, 0x80, 0xA5]

/-- A frame with a burst: its sequence number, byte 2 (head mask and flags), marker and length (R160). -/
def burstFrame (sequence flags marker length row col : Nat) : LinkFrame :=
  .sealed 0x01 (natBytes 2 sequence ++ [oneByte flags, oneByte marker, oneByte length] ++ natBytes 2 row
    ++ natBytes 2 col ++ [0, 0])

/-! ### The Pattern Link and bursts -/

/-- After acquisition the second of two frames is executed (R3). -/
theorem test_acquisition : (after (.syncAcquisition (twice statusFrame)) State.reset).link = .inSync
    ∧ (after (.syncAcquisition (twice statusFrame)) State.reset).requests = [⟨1, 1, []⟩] := by decide +kernel

/-- The rows 65,535 and 2 of the example of 1.3, with sites S0 to S3 enabled. -/
theorem test_burst_sequence :
    let sites := tabulate (fun i : SiteId => { Site.reset with enabled := decide (i.val < 4), verdict := .pending })
    let s := { linked { workHead with sites := sites } with expected := some 1 }
    let t := after (.burst (burstFrame 2 0 0 1 0 0)) s
    t.expected = some 3 ∧ ((t.head 0).site 3).causes = LossCause.gap.bit ∧ ((t.head 0).site 4).causes = 0
      ∧ HeadEvent.resultLoss.isIn (t.head 0).events = true
      ∧ (after (.burst (burstFrame 65535 0 0 1 0 0)) { s with expected := some 65535 }).expected = some 0 := by
  decide +kernel

/-- Bursts 100 and 101 of the example of 4.4 on head H0: tag 0 and field S0, S1, S3, then CAPTURE_OFF and drive-only
with 256 vectors. -/
theorem test_burst_distribution :
    let sites := tabulate (fun i : SiteId =>
      { Site.reset with enabled := decide (i.val < 4), stopped := decide (i.val = 2), verdict := .pending })
    let s := { linked { workHead with sites := sites } with
      markers := setAt (Vector.replicate 8 Marker.reset) 0 ⟨true, 0x80, 0xC0, 3, .captureOff⟩ }
    let t := after (.burst (burstFrame 100 0x11 0 64 0 0)) s
    let u := after (.burst (burstFrame 101 0x11 0x85 0 0 0)) t
    (t.head 0).tracking.map (fun e => (e.tag, e.sites, e.startIndex)) = [(0, 0x000B, 0)]
      ∧ (t.head 0).vectorIndex = 64 ∧ (u.head 0).capture = false ∧ (u.head 0).vectorIndex = 320
      ∧ (u.head 0).sendQueue.map (fun b => (b.tag, b.compare)) = [(0, true), (0, false)] := by decide +kernel

/-- Base coordinates 5,000 and 300 become 904 and 44 on head H1 (6.8). -/
theorem test_base_reduction :
    ((after (.burst (burstFrame 0 0x12 0 3 5000 300)) (linked workHead)).head 1).sendQueue.map
      (fun b => (b.baseRow, b.baseCol)) = [(904, 44)] := by decide +kernel

/-- The eighth failed check in a row ends IN_SYNC and is counted (R4). -/
theorem test_eighth_failure :
    let t := after (.frameCheckFailure ⟨2, [1, 1], 0⟩) { linked Head.reset with failureRun := 7, crcDiscards := 9 }
    t.link = .outOfSync ∧ t.crcDiscards = 10 ∧ t.failureRun = 0 := by decide +kernel

/-- A signal loss ends IN_SYNC; a frame of kind NOTICE is counted (R1, R4). -/
theorem test_loss_and_discard : (after (.patternLinkLoss .signalLost) (linked Head.reset)).link = .outOfSync
    ∧ (after (.malformedFrame (.sealed 0x04 [0, 0, 0])) (linked Head.reset)).crcDiscards = 1
    ∧ (after .powerOn (linked Head.reset)).link = .outOfSync := by decide +kernel

/-- A seventeenth request is dropped and counted (R7). -/
theorem test_request_drop :
    let t := after (.requestFrame statusFrame)
      { linked Head.reset with requests := List.replicate 16 ⟨5, 1, []⟩, requestDrops := 65535 }
    t.requests.length = 16 ∧ t.requestDrops = 65535 := by decide +kernel

/-- A reply is sent with its layout: kind 3, length, id, code, status, then the frame check (R159, R161). -/
theorem test_upstream_send :
    let t := after .upstreamSend { linked Head.reset with upstream := [.reply ⟨0x21, 18, .done, .events 0x81⟩] }
    t.upstream = [] ∧ t.linkOut.take 7 = [0x03, 0, 4, 0x21, 18, 0, 0x81] ∧ t.linkOut.length = 9
      ∧ crcRegister t.linkOut = 0x1D0F := by decide +kernel

/-! ### Requests -/

/-- The statuses of the replies that wait upstream. -/
def statuses (s : State) : List Status :=
  s.upstream.filterMap (fun f => match f with
    | .reply r => some r.status
    | .notice _ => none)

/-- The work head in another state. -/
def workIn (st : HeadState) : Head := { workHead with state := st }

theorem test_unknown_code : statuses (after .unknownRequestCode (asked Head.reset ⟨1, 21, []⟩)) = [.badArgument]
    ∧ statuses (after .unknownRequestCode (asked Head.reset ⟨1, 9, [5, 0]⟩)) = [.badArgument] := by decide +kernel

theorem test_device_status : (after .deviceStatus (asked workHead ⟨1, 1, []⟩)).upstream
    = [.reply ⟨1, 1, .done, .deviceStatus 0 0 none [.testing, .testing, .testing, .testing] 0 0⟩] := by decide +kernel

/-- DEVICE_RESET answers DONE first and then ABORTED for the access of H2 (R16). -/
theorem test_device_reset :
    let hd := { workHead with slot := some ⟨.mainframe 7 20, false, 0, 0, 0, true, 40, true⟩ }
    let s := { asked Head.reset ⟨1, 2, []⟩ with heads := setAt State.reset.heads 2 hd, reservations := [2] }
    statuses (after .deviceReset s) = [.done, .aborted] ∧ (after .deviceReset s).reservations = []
      ∧ ((after .deviceReset s).head 2).state = .offline := by decide +kernel

theorem test_head_start : ((after .headStart (asked Head.reset ⟨1, 3, [2]⟩)).head 2).phase = some .hunt
    ∧ ((after .headStart (asked { Head.reset with laneSignal := false } ⟨1, 3, [2]⟩)).head 2).reason = .laneLost := by
  decide +kernel

theorem test_head_reset :
    let t := after .headReset (asked workHead ⟨1, 4, [1]⟩)
    (t.head 1).state = .offline ∧ (t.head 1).reason = .reset ∧ (t.head 1).generation = 24
      ∧ (t.head 1).geometry = workHead.geometry ∧ ((t.head 1).site 5).logEnable = true
      ∧ ((t.head 1).site 5).verdict = .none := by decide +kernel

/-- A proxy timeout of 0 is taken as 1 ms (R25). -/
theorem test_head_setup :
    let t := after .headSetup (asked Head.reset ⟨1, 5, [3, 2, 1, 2, 3, 0]⟩)
    (t.head 3).setup = ⟨.odd, .stopOnReject, .onTrigger, 3, 1⟩ ∧ statuses t = [.adjusted]
      ∧ statuses (after .headSetup (asked Head.reset ⟨1, 5, [3, 4, 1, 2, 3, 0]⟩)) = [.badArgument] := by decide +kernel

/-- An IO count above the profile's IO maximum is refused with BAD_ARGUMENT (R26). -/
theorem test_head_commit :
    ((after .headCommit (asked (workIn .config) ⟨1, 6, [0]⟩)).head 0).state = .ready
      ∧ statuses (after .headCommit (asked { workIn .config with profile := some ⟨16, 7, 0⟩ } ⟨1, 6, [0]⟩))
        = [.badArgument] := by decide +kernel

theorem test_head_release :
    ((after .headRelease (asked (workIn .ready) ⟨1, 7, [0]⟩)).head 0).state = .config
      ∧ statuses (after .headRelease (asked (workIn .config) ⟨1, 7, [0]⟩)) = [.refusedState] := by decide +kernel

theorem test_head_status :
    (after .headStatus (asked workHead ⟨1, 8, [1]⟩)).upstream = [.reply ⟨1, 8, .done, .headStatus workHead.report⟩]
      ∧ workHead.report.bytes.length = 43 := by decide +kernel

/-- Spare counts above 4 are taken as 4; BB must be below RB (R101). -/
theorem test_write_geometry :
    ((after .tableWriteGeometry (asked Head.reset ⟨1, 9, [0, 1, 12, 8, 2, 8, 9, 2]⟩)).head 1).geometry
        = ⟨true, 12, 8, 2, 8, 4, 2⟩
      ∧ statuses (after .tableWriteGeometry (asked Head.reset ⟨1, 9, [0, 1, 4, 8, 4, 8, 2, 2]⟩)) = [.badArgument] := by
  decide +kernel

/-- Bits at or above bit 28 are cleared, and the reply is ADJUSTED (R103). -/
theorem test_write_window :
    let t := after .tableWriteWindow (asked Head.reset
      ⟨1, 9, [1, 1, 7, 1, 0x10, 0, 0, 5, 0, 0, 0, 6, 0, 0, 0, 7, 0, 0, 0, 8]⟩)
    (t.head 1).windows[7] = ⟨true, 5, 6, 7, 8⟩ ∧ statuses t = [.adjusted] := by decide +kernel

theorem test_write_marker :
    (after .tableWriteMarker (asked Head.reset ⟨1, 9, [2, 3, 1, 0x80, 0xC0, 3, 3]⟩)).markers[3]
        = ⟨true, 0x80, 0xC0, 3, .endSegment⟩
      ∧ statuses (after .tableWriteMarker (asked workHead ⟨1, 9, [2, 3, 1, 0x80, 0xC0, 3, 3]⟩)) = [.refusedState] := by
  decide +kernel

theorem test_write_latency_class :
    let t := after .tableWriteLatencyClass (asked Head.reset ⟨1, 9, [3, 7, 1, 0x40, 0, 0, 0]⟩)
    t.latency[7] = ⟨true, 16383, 1⟩ ∧ statuses t = [.adjusted] := by decide +kernel

theorem test_write_site_limits :
    let t := after .tableWriteSiteLimits (asked Head.reset ⟨1, 9, [4, 0, 15, 1, 2, 9]⟩)
    ((t.head 0).site 15).failLimit = 258 ∧ ((t.head 0).site 15).logEnable = true := by decide +kernel

theorem test_read_geometry : (after .tableReadGeometry (asked workHead ⟨1, 10, [0, 1]⟩)).upstream
    = [.reply ⟨1, 10, .done, .geometry ⟨true, 12, 8, 2, 8, 2, 2⟩⟩] := by decide +kernel

theorem test_read_window : (after .tableReadWindow (asked workHead ⟨1, 10, [1, 1, 0]⟩)).upstream
    = [.reply ⟨1, 10, .done, .window ⟨true, 262144, 262144, 524288, 524288⟩⟩] := by decide +kernel

theorem test_read_marker : statuses (after .tableReadMarker (asked workHead ⟨1, 10, [2, 8]⟩)) = [.badArgument]
    ∧ statuses (after .tableReadMarker (asked workHead ⟨1, 10, [2, 7]⟩)) = [.done] := by decide +kernel

theorem test_read_latency_class : (after .tableReadLatencyClass (asked workHead ⟨1, 10, [3, 0]⟩)).upstream
    = [.reply ⟨1, 10, .done, .latencyClass ⟨false, 0, 0⟩⟩] := by decide +kernel

theorem test_read_site_limits : (after .tableReadSiteLimits (asked workHead ⟨1, 10, [4, 0, 5]⟩)).upstream
    = [.reply ⟨1, 10, .done, .siteLimits 0 true⟩] := by decide +kernel

/-- The readback at the end of section 7.6. -/
theorem test_read_block :
    let b : Block := ⟨.collecting, [0], [40], [⟨11, 50, 2, 7430⟩, ⟨12, 60, 1, 8112⟩], 1⟩
    (after .tableReadBlockRecord (asked (workHead.setBlock 5 3 b) ⟨1, 10, [5, 1, 5, 3]⟩)).upstream
      = [.reply ⟨1, 10, .done, .block b⟩] := by decide +kernel

/-- A site that is not present is dropped from the set (R43). -/
theorem test_set_sites :
    let t := after .setSites (asked (workIn .ready) ⟨1, 11, [0, 0x00, 0x21]⟩)
    ((t.head 0).site 5).enabledNext = true ∧ ((t.head 0).site 0).enabledNext = false ∧ statuses t = [.adjusted] := by
  decide +kernel

theorem test_segment_open :
    let t := after .segmentOpen (asked (workIn .ready) ⟨1, 12, [0]⟩)
    (t.head 0).state = .testing ∧ (t.head 0).generation = 24 ∧ ((t.head 0).site 0).verdict = .masked
      ∧ ((t.head 0).block 5 3).state = .collecting ∧ ((t.head 0).block 5 4).state = .idle := by decide +kernel

/-- Blocks 0 to 3 of S5 are queued in order, with generation 23 (8.6). -/
theorem test_segment_close :
    let t := after .segmentClose (asked workHead ⟨1, 13, [1]⟩)
    t.solveList = [⟨1, 5, 0, 23⟩, ⟨1, 5, 1, 23⟩, ⟨1, 5, 2, 23⟩, ⟨1, 5, 3, 23⟩] ∧ (t.head 1).state = .solving
      ∧ ((after .segmentClose (asked { workHead with tracking := [workEntry] } ⟨1, 13, [1]⟩)).head 1).state
        = .draining := by decide +kernel

theorem test_stop_site :
    let t := after .stopSite (asked workHead ⟨1, 14, [1, 5]⟩)
    ((t.head 1).site 5).stopReason = .manual ∧ ((t.head 1).site 5).verdict = .incomplete
      ∧ ((t.head 1).block 5 2).state = .stopped
      ∧ statuses (after .stopSite (asked workHead ⟨1, 14, [1, 6]⟩)) = [.badArgument] := by decide +kernel

theorem test_verdict_read : (after .verdictRead (asked Head.reset ⟨1, 15, [1]⟩)).upstream
    = [.reply ⟨1, 15, .done, .verdicts (List.replicate 16 .none) (List.replicate 16 .none)⟩] := by decide +kernel

/-- The block count is 2^BB with a geometry loaded, and 0 without one (R144). -/
theorem test_repair_read : ((workHead.repairReport 5).blocks.length, (Head.reset.repairReport 5).blocks.length) = (4, 0)
    ∧ statuses (after .repairRead (asked workHead ⟨1, 16, [1, 16]⟩)) = [.badArgument]
    ∧ statuses (after .repairRead (asked workHead ⟨1, 16, [1, 15]⟩)) = [.done] := by decide +kernel

/-- A count of 0 is taken as 1, and the removal clears the overrun flag (R151). -/
theorem test_log_read :
    let e : LogEntry := ⟨.unmapped, 5, none, none, none, some 262142, 5000⟩
    let t := after .logRead (asked { workHead with log := [e, e], overrun := true } ⟨1, 17, [1, 0]⟩)
    (t.head 1).log = [e] ∧ (t.head 1).overrun = false
      ∧ t.upstream = [.reply ⟨1, 17, .adjusted, .log [e] true 1⟩] := by decide +kernel

theorem test_event_clear :
    ((after .eventClear (asked { workHead with events := 0xF0 } ⟨1, 18, [0, 0x33]⟩)).head 0).events = 0xC0 := by
  decide +kernel

/-- Masking in an event that is set makes one notice before the reply (R156). -/
theorem test_event_mask :
    (after .eventMask (asked { workHead with events := 0x20 } ⟨1, 19, [2, 0x20]⟩)).upstream
      = [.notice ⟨2, .testing, 0x20⟩, .reply ⟨1, 19, .done, .events 0x20⟩] := by decide +kernel

/-- In TESTING an access needs the intrusive flag (R37). -/
theorem test_maint_access :
    let args : List Byte := [1, 1, 0, 0x10, 0, 0, 0, 0, 9, 0x0F]
    statuses (after .maintAccess (asked workHead ⟨1, 20, args ++ [0]⟩)) = [.retry]
      ∧ ((after .maintAccess (asked workHead ⟨1, 20, args ++ [1]⟩)).head 1).slot
        = some ⟨.mainframe 1 20, true, 0x1000, 9, 0xF, false, 32000, true⟩
      ∧ (after .maintAccess (asked workHead ⟨1, 20, args ++ [1]⟩)).reservations = [1] := by decide +kernel

/-! ### Lanes and the result path -/

/-- A head in phase HUNT whose probe ended `n` quanta ago. -/
def hunting (n : Nat) : Head :=
  { Head.reset with state := .training, phase := some .hunt, roundTripTimer := some n }

theorem test_head_burst_send :
    let b : HeadBurst := ⟨3, true, .colFast, 0, 904, 44, 0xBEEF, 0x0021⟩
    let t := after (.headBurstSend 1) (linked { workHead with sendQueue := [b] })
    (t.head 1).sendQueue = [] ∧ (t.head 1).transmitting = some b
      ∧ (t.head 1).laneOut = [0x10, 3, 3, 0, 0x03, 0x88, 0, 44, 0xBE, 0xEF, 0x00, 0x21] := by decide +kernel

/-- A waiting access goes only with the Send Queue empty (R76). -/
theorem test_maint_send :
    let a : Access := ⟨.mainframe 1 20, true, 0x1234, 9, 0xF, false, 40, true⟩
    ((after (.maintSend 1) (linked { workHead with slot := some a })).head 1).laneOut
        = [0x12, 0x8F, 0, 0x12, 0x34, 0, 0, 0, 9]
      ∧ ((after (.maintSend 1) (linked { workHead with
          slot := some a, sendQueue := [⟨3, true, .colFast, 0, 0, 0, 0, 0⟩] })).head 1).slot = some a := by
  decide +kernel

theorem test_probe_send :
    let hd := { Head.reset with state := .training, phase := some .hunt, probeWaiting := true }
    let t := after (.probeSend 0) (linked hd)
    (t.head 0).roundTripTimer = some 0 ∧ (t.head 0).laneOut = [0x11] ∧ (t.head 0).probeWaiting = false := by
  decide +kernel

theorem test_burst_transmit_end :
    let hd := { workHead with
      transmitting := some ⟨9, true, .colFast, 4, 0, 0, 0, 0⟩
      tracking := [{ workEntry with deadline := .waitingSend }] }
    ((after (.burstTransmitEnd 1) (linked hd)).head 1).tracking = [workEntry] := by decide +kernel

/-- The first valid class that fits is chosen, counting a quantum that has begun (R23). -/
theorem test_echo :
    let s := { linked (hunting 10) with
      latency := setAt (setAt (Vector.replicate 8 LatencyClass.reset) 1 ⟨true, 13, 50⟩) 2 ⟨true, 14, 60⟩ }
    ((after (.echo 0 2) s).head 0).classIndex = some 1 ∧ ((after (.echo 0 3) s).head 0).classIndex = some 2
      ∧ ((after (.echo 0 4) s).head 0).reason = .outOfTable := by decide +kernel

/-- An ECHO 16,383 quanta after the end of the probe can be taken before the expiry; a later one is discarded (R23). -/
theorem test_late_echo :
    let s := { linked (hunting 16000) with latency := setAt (Vector.replicate 8 LatencyClass.reset) 7 ⟨true, 16383, 1⟩ }
    ((after (.echo 0 383) s).head 0).roundTrip = some 16383 ∧ ((after (.echo 0 384) s).head 0).reason = .noEcho
      ∧ ((after (.echo 0 5000) s).head 0).roundTrip = none ∧ ((after (.echo 0 5000) s).head 0).state = .offline := by
  decide +kernel

theorem test_timeouts : ((after (.roundTripTimeout 0) (linked (hunting 10))).head 0).reason = .noEcho
    ∧ statuses (after (.proxyTimeout 1) { linked { workHead with
        slot := some ⟨.mainframe 1 20, false, 0, 0, 0, false, 7, true⟩ } with reservations := [1] }) = [.timeout] := by
  decide +kernel

/-- A profile of 16 sites, 8 IO bits and model 0x0102 (R24, R164); a site count of 17 is no profile. -/
theorem test_maint_answer :
    let hd := { Head.reset with
      state := .training, phase := some .profile
      slot := some ⟨.profileRead, false, 0, 0, 0xF, true, 7, false⟩ }
    ((after (.maintAnswer 0 [0, 1, 2, 8, 16]) (linked hd)).head 0).profile = some ⟨16, 8, 0x0102⟩
      ∧ ((after (.maintAnswer 0 [0, 1, 2, 8, 17]) (linked hd)).head 0).reason = .badProfile := by decide +kernel

/-- 64 microseconds are 256 quanta (R25, R29). -/
theorem test_supply :
    let t := after (.supplyGoodFall 1) (linked workHead)
    (t.head 1).fenceTimer = some 256 ∧ ((after (.supplyGoodRise 1) t).head 1).fenceTimer = none := by decide +kernel

theorem test_fence_timer_expiry :
    let t := after (.fenceTimerExpiry 1) (linked { workHead with supplyGood := false, fenceTimer := some 3 })
    (t.head 1).state = .fenced ∧ ((t.head 1).site 5).causes = LossCause.fence.bit
      ∧ ((t.head 1).site 5).verdict = .incomplete ∧ (t.head 1).generation = 24 := by decide +kernel

theorem test_lane_signal :
    let t := after (.laneSignalLoss 1) (linked workHead)
    (t.head 1).state = .offline ∧ ((t.head 1).site 5).causes = LossCause.laneLost.bit
      ∧ ((after (.laneSignalReturn 1) t).head 1).laneSignal = true
      ∧ after (.unknownUnitDiscard 1 0x77 [1, 2]) (linked workHead) = linked workHead := by decide +kernel

/-- The record of section 6.7 waits with its 3 entries, and its tracking entry is ANSWERED (R34, R87). -/
theorem test_result_record :
    let t := after (.resultRecord 1 workUnit) (linked { workHead with tracking := [workEntry] })
    (t.head 1).bufferEntries = 3 ∧ (t.head 1).tracking.map TrackEntry.deadline = [.answered]
      ∧ ((after (.resultRecord 1 workUnit) (linked workHead)).head 1).strays = 1 := by decide +kernel

/-- Without its end mark the record fails the framing check (R90). -/
theorem test_framing_failure :
    let t := after (.resultRecord 1 (workUnit.dropLast ++ [0xA4])) (linked { workHead with tracking := [workEntry] })
    (t.head 1).tracking = [] ∧ ((t.head 1).site 5).causes = LossCause.framing.bit := by decide +kernel

theorem test_fail_entry_arrival :
    ((after (.failEntryArrival 1) (linked { workHead with reception := some (.receiving 1023) })).head 1).laneHeld = false
      ∧ ((after (.failEntryArrival 1) (linked { workHead with reception := some (.receiving 1024) })).head 1).reception
        = some .discarding := by decide +kernel

theorem test_tracking_expiry :
    let t := after (.trackingExpiry 1) (linked { workHead with tracking := [workEntry] })
    (t.head 1).tracking = [] ∧ ((t.head 1).site 5).causes = LossCause.timeout.bit := by decide +kernel

/-- The head of section 6.7 with its record in the lane buffer. -/
def bufferedHead : Head :=
  { workHead with
    tracking := [{ workEntry with deadline := .answered }]
    laneBuffer := [⟨9, [⟨5, [⟨0, 0x0001, none⟩, ⟨2, 0x0005, none⟩, ⟨3, 0x0180, none⟩]⟩]⟩] }

/-- The four items of section 6.7, in their order, and the record finished with. -/
theorem test_fail_entry_admit :
    let t := after (.failEntryAdmit 1) (after (.failEntryAdmit 1) (after (.failEntryAdmit 1) (linked bufferedHead)))
    t.analysis.map (fun it => (it.block, it.row, it.col, it.vectorIndex))
        = [(0, 1023, 2032, 5000), (3, 0, 0, 5002), (3, 0, 2, 5002), (3, 0, 15, 5003)]
      ∧ ((t.head 1).site 5).rawFails = 4 ∧ (t.head 1).tracking = [] ∧ (t.head 1).laneBuffer = [] := by decide +kernel

/-- The variant of section 6.7: with W1 disabled, entry a makes an UNMAPPED fail; under STOP_ON_REJECT it stops the
site. -/
theorem test_unmapped_fail :
    let hd := { bufferedHead with
      windows := setAt workHead.windows 1 Window.reset, setup := { workHead.setup with stopPolicy := .stopOnReject } }
    let t := after (.failEntryAdmit 1) (linked hd)
    ((t.head 1).site 5).rawFails = 1 ∧ ((t.head 1).site 5).stopReason = .reject
      ∧ (t.head 1).log = [⟨.unmapped, 5, none, none, none, some 262142, 5000⟩]
      ∧ ((t.head 1).site 5).verdict = .unrepairable := by decide +kernel

/-- The rows of section 6.8 that wrap: ROW_FAST from row 4,094 and column 255, and COL_FAST at the last corner. -/
theorem test_expansion_wraps :
    ([0, 1, 2].map (fun k => logicalWord workHead.geometry (expand workHead.geometry .rowFast 4094 255 k)))
        = [1048319, 1048575, 0]
      ∧ expand workHead.geometry .colFast 4095 250 6 = (0, 0)
      ∧ expand ⟨true, 2, 1, 1, 1, 0, 0⟩ .rowFast 3 0 7 = (2, 0) := by decide +kernel

/-- Offset 3, mask 0x0180 and check bit 1 make 5 ones (10.5). -/
theorem test_entry_check : (⟨3, 0x0180, some true⟩ : FailEntry).checkPasses .odd = true
    ∧ (⟨3, 0x0180, some true⟩ : FailEntry).checkPasses .even = false := by decide +kernel

/-! ### Repair analysis -/

/-- A fail item of block `b` of site S5 of head H1, of generation 23. -/
def item (b : BlockId) (row col : Nat) (v : BitVec 32) : FailItem := ⟨1, 5, b, row, col, v, 23, false⟩

/-- Rows of the example of 7.2: an item at count 7 makes 8, then the job is taken and the count is 0. -/
theorem test_arbiter :
    let s := { linked workHead with
      analysis := [item 0 1 1 0, item 0 2 2 0], solveList := [⟨2, 5, 0, 23⟩], arbiterCount := 7 }
    let t := after .itemTake s
    t.arbiterCount = 8 ∧ t.engine = .item (item 0 1 1 0) false
      ∧ after .itemTake { t with engine := .idle } = { t with engine := .idle }
      ∧ (after .solveJobTake { t with engine := .idle }).arbiterCount = 0 := by decide +kernel

/-- The first six items of block 3 in section 7.6. -/
theorem test_must_repair :
    let run := [item 3 0 0 5002, item 3 0 2 5002, item 3 0 15 5003, item 3 7 40 6210, item 3 9 40 6377,
      item 3 0 99 7001].foldl (fun b it => (processItem workHead.geometry b it).1) Block.opened
    run = ⟨.collecting, [0], [40], [], 1⟩ := by decide +kernel

/-- The block of section 7.7 before the item that starts the cascade. -/
def cascadeBlock : Block :=
  ⟨.collecting, [], [], [⟨1, 10, 1, 0⟩, ⟨1, 20, 1, 0⟩, ⟨2, 30, 1, 0⟩, ⟨3, 30, 1, 0⟩, ⟨5, 50, 1, 0⟩, ⟨5, 60, 1, 0⟩], 0⟩

/-- The cascade of section 7.7 and its log entries. -/
theorem test_cascade :
    let r := processItem workHead.geometry cascadeBlock (item 1 1 40 20000)
    r.1 = ⟨.collecting, [1, 5], [30], [], 0⟩
      ∧ r.2.map (fun e => (e.kind, e.row, e.col)) = [(.firstFail, some 1, some 40), (.rowRepair, some 1, none),
        (.colRepair, none, some 30), (.rowRepair, some 5, none)] := by decide +kernel

/-- Block 3 of sections 7.6 and 8.6 before its last events. -/
def lateBlock (st : BlockState) : Block := ⟨st, [0], [40], [⟨11, 50, 2, 7430⟩, ⟨12, 60, 1, 8112⟩], 1⟩

/-- Variant A of section 7.6: the block is UNREPAIRABLE, and BLOCK_REJECT follows FIRST_FAIL. -/
theorem test_item_completion :
    let t := after .itemCompletion
      { linked (workHead.setBlock 5 3 (lateBlock .collecting)) with engine := .item (item 3 13 70 9500) false }
    ((t.head 1).block 5 3).state = .unrepairable ∧ ((t.head 1).block 5 3).fails.length = 3
      ∧ (t.head 1).log.map LogEntry.kind = [.firstFail, .blockReject] ∧ ((t.head 1).site 5).stopped = false
      ∧ t.engine = .idle := by decide +kernel

/-- The solve of section 8.6, and its end: block 3 SOLVED, the site final, H1 in READY. -/
theorem test_solve_job :
    let hd := { (workHead.setBlock 5 3 (lateBlock .queued)) with state := .solving }
    let s := { linked hd with solveList := [⟨1, 5, 3, 23⟩] }
    let t := after .solveJobTake s
    let u := after .solveJobCompletion t
    t.engine = .job ⟨1, 5, 3, 23⟩ (some ⟨[11], [60]⟩) false
      ∧ (u.head 1).block 5 3 = ⟨.solved, [0, 11], [40, 60], [], 1⟩
      ∧ ((u.head 1).site 5).verdict = .repaired ∧ (u.head 1).state = .ready := by decide +kernel

/-- The two solves of section 8.7. -/
theorem test_solve :
    solve workHead.geometry ⟨.queued, [], [], [⟨1, 10, 1, 0⟩, ⟨1, 20, 1, 0⟩, ⟨2, 30, 1, 0⟩, ⟨2, 40, 1, 0⟩, ⟨3, 50, 1, 0⟩,
        ⟨4, 50, 1, 0⟩], 0⟩ = some ⟨[1, 2], [50]⟩
      ∧ solve workHead.geometry ⟨.queued, [], [], [⟨1, 10, 1, 0⟩, ⟨1, 20, 1, 0⟩, ⟨2, 20, 1, 0⟩, ⟨2, 30, 1, 0⟩,
        ⟨3, 30, 1, 0⟩, ⟨3, 40, 1, 0⟩, ⟨4, 40, 1, 0⟩, ⟨4, 10, 1, 0⟩], 0⟩ = none := by decide +kernel

/-! ### Witnesses: states and operands that meet the hypotheses of each statement, one for each of its clauses -/

theorem witness_StepRunsFrontCommand : ({ State.reset with pending := [.upstreamSend, .itemTake] } : State).pending
    = .upstreamSend :: [.itemTake] := by decide +kernel

theorem witness_IdleStepLetsOneQuantumPass : State.reset.pending = [] := by decide +kernel

/-- A frame whose body holds the start of another one, which passes the check at the same place. -/
def overlapping : LinkFrame := .sealed 0x02 ([86, 212] ++ LinkFrame.covered 0x02 [0x01, 0x01])

/-- The streams that end with a request, with a burst that names no head, with one that names a head, with a frame of
another kind and with two pairs at once; a stream whose first frame is interrupted by idle fill, and one that goes on after
its pair; and a full Request Queue. -/
theorem witness_SyncAcquisitionStartsTheLink :
    let other := LinkFrame.sealed 0x05 []
    let drive := burstFrame 65535 0 0 0 0 0
    State.reset.link = .outOfSync ∧ State.reset.requests.length < 16 ∧ State.reset.expected = none
      ∧ (acquiredFrames (twice statusFrame) = [statusFrame] ∧ statusFrame.kind = 0x02)
      ∧ (acquiredFrames (twice drive) = [drive] ∧ drive.kind = 0x01 ∧ drive.body.length = 11
        ∧ (Burst.read drive.body).headMask = 0)
      ∧ (acquiredFrames (twice other) = [other] ∧ other.kind ≠ 0x02 ∧ other.kind ≠ 0x01)
      ∧ acquiredFrames (twice (burstFrame 7 0x11 0 0 0 0)) = [burstFrame 7 0x11 0 0 0 0]
      ∧ acquiredFrames ((overlapping.bytes ++ statusFrame.bytes).map .byte) = [statusFrame, statusFrame]
      ∧ acquiredFrames (.byte 0x02 :: .idle :: (statusFrame.bytes.tail ++ statusFrame.bytes).map .byte) = []
      ∧ acquiredFrames (twice statusFrame ++ [.idle]) = []
      ∧ 16 ≤ ({ State.reset with requests := List.replicate 16 ⟨1, 1, []⟩ } : State).requests.length
      ∧ (linked workHead).link = .inSync := by decide +kernel

theorem witness_LinkLossAndCheckFailures :
    let f : LinkFrame := ⟨0x02, List.replicate 48 0, 0⟩
    (linked workHead).link = .inSync ∧ 48 < (49 : BitVec 16).toNat ∧ f.body.length ≤ 48 ∧ f.checkPasses = false
      ∧ ({ linked workHead with failureRun := 6 } : State).failureRun < 7
      ∧ 7 ≤ ({ linked workHead with failureRun := 7 } : State).failureRun := by decide +kernel

theorem witness_RequestsJoinAndOtherFramesAreCounted :
    let long := LinkFrame.sealed 0x02 (List.replicate 48 0)
    let other := LinkFrame.sealed 0x01 (List.replicate 10 0)
    (linked workHead).link = .inSync ∧ long.body.length ≤ 48 ∧ long.checkPasses = true ∧ long.kind = 0x02
      ∧ ({ linked workHead with requests := List.replicate 15 ⟨1, 1, []⟩ } : State).requests.length < 16
      ∧ 16 ≤ ({ linked workHead with requests := List.replicate 16 ⟨1, 1, []⟩ } : State).requests.length
      ∧ other.body.length ≤ 48 ∧ other.checkPasses = true ∧ other.kind ≠ 0x02
      ∧ ¬ (other.kind = 0x01 ∧ other.body.length = 11) := by decide +kernel

theorem witness_UpstreamSendSendsTheOldestFrame :
    let s := { linked workHead with upstream := [.notice ⟨3, .fenced, 0xFF⟩, .reply ⟨1, 1, .done, .empty⟩] }
    s.link = .inSync ∧ s.upstream = .notice ⟨3, .fenced, 0xFF⟩ :: [.reply ⟨1, 1, .done, .empty⟩] := by decide +kernel

/-- A burst of compare type for H0 to H2, when H0 is in TESTING and H1 is not. -/
def burstState : State :=
  { linked workHead with heads := setAt (Vector.replicate 4 workHead) 1 (workIn .draining), expected := some 7 }

/-- Heads named in and outside TESTING, and a burst whose one named head is in DRAINING. -/
theorem witness_BurstSequenceAndSkips :
    let f := burstFrame 7 0x17 0 0 0 0
    let quiet := burstFrame 7 0x12 0 0 0 0
    burstState.link = .inSync ∧ f.kind = 0x01 ∧ f.body.length = 11 ∧ f.checkPasses = true
      ∧ burstState.expected = some (Burst.read f.body).sequence
      ∧ (Burst.read f.body).headMask.getLsbD 3 = false
      ∧ (Burst.read f.body).headMask.getLsbD 1 = true ∧ (burstState.head 1).state ≠ .testing
      ∧ (quiet.kind = 0x01 ∧ quiet.body.length = 11 ∧ quiet.checkPasses = true
        ∧ burstState.expected = some (Burst.read quiet.body).sequence ∧ (Burst.read quiet.body).headMask ≠ 0
        ∧ ∀ h : HeadId, (Burst.read quiet.body).headMask.getLsbD h.val = true → (burstState.head h).state ≠ .testing) := by
  decide +kernel

/-- The hypotheses on the frame and on head H0 that the statements on placing share. -/
def placeable (s : State) (f : LinkFrame) : Prop :=
  s.link = .inSync ∧ f.kind = 0x01 ∧ f.body.length = 11 ∧ f.checkPasses = true
    ∧ s.expected = some (Burst.read f.body).sequence ∧ (Burst.read f.body).headMask.getLsbD 0 = true
    ∧ (s.head 0).state = .testing

/-- The set of the sites of H0 that take part in a burst. -/
def fieldOf (s : State) : BitVec 16 :=
  siteSet (fun i => ((s.head 0).site i).enabled && !((s.head 0).site i).stopped)

/-- Seven head bursts wait and 31 entries are tracked, as in the second example of 4.4; a compare burst, and a
drive-only one. -/
theorem witness_BurstIsPlacedForATestingHead :
    let hd := { workHead with
      sendQueue := List.replicate 7 ⟨0, false, .rowFast, 0, 0, 0, 0, 0⟩, tracking := List.replicate 31 workEntry }
    let s := { linked hd with expected := some 7 }
    let f := burstFrame 7 0x11 0 0 0 0
    let drive := burstFrame 7 0x01 0 1 0 0
    placeable s f ∧ placeable s drive ∧ actionOn (matchedMarker s.markers (Burst.read f.body).marker) 0 = none
      ∧ (s.head 0).sendQueue.length < 8 ∧ (Burst.read f.body).compare = true ∧ (s.head 0).capture = true
      ∧ fieldOf s ≠ 0 ∧ (s.head 0).tracking.length < 32
      ∧ actionOn (matchedMarker s.markers (Burst.read drive.body).marker) 0 = none
      ∧ (Burst.read drive.body).compare = false := by
  unfold placeable; decide +kernel

theorem witness_BurstWithoutRoomIsMarked :
    let full := { workHead with sendQueue := List.replicate 8 ⟨0, false, .rowFast, 0, 0, 0, 0, 0⟩ }
    let tracked := { workHead with
      sendQueue := List.replicate 7 ⟨0, false, .rowFast, 0, 0, 0, 0, 0⟩, tracking := List.replicate 32 workEntry }
    let s := { linked full with expected := some 7 }
    let u := { linked tracked with expected := some 7 }
    let f := burstFrame 7 0x11 0 0 0 0
    let drive := burstFrame 7 0x01 0 1 0 0
    placeable s f ∧ placeable s drive ∧ placeable u f
      ∧ actionOn (matchedMarker s.markers (Burst.read f.body).marker) 0 = none
      ∧ actionOn (matchedMarker s.markers (Burst.read drive.body).marker) 0 = none
      ∧ 8 ≤ (s.head 0).sendQueue.length ∧ (Burst.read f.body).compare = true ∧ (s.head 0).capture = true
      ∧ fieldOf s ≠ 0 ∧ (Burst.read drive.body).compare = false
      ∧ (u.head 0).sendQueue.length < 8 ∧ 32 ≤ (u.head 0).tracking.length ∧ (u.head 0).capture = true
      ∧ fieldOf u ≠ 0 := by
  unfold placeable; decide +kernel

/-- Heads in and outside TESTING that the burst does not name, and one in TESTING that a compare burst and a drive-only
burst name. -/
theorem witness_GapMarksEveryTestingHead :
    let f := burstFrame 65535 0x14 0 0 0 0
    let named := burstFrame 9 0x11 0 3 0 0
    let drive := burstFrame 9 0x01 0 3 0 0
    burstState.link = .inSync ∧ f.kind = 0x01 ∧ f.body.length = 11 ∧ f.checkPasses = true
      ∧ burstState.expected = some 7 ∧ (7 : BitVec 16) ≠ (Burst.read f.body).sequence
      ∧ (Burst.read f.body).headMask.getLsbD 0 = false ∧ (burstState.head 0).state = .testing
      ∧ (Burst.read f.body).headMask.getLsbD 1 = false ∧ (burstState.head 1).state ≠ .testing
      ∧ (∀ g ∈ [named, drive], g.kind = 0x01 ∧ g.body.length = 11 ∧ g.checkPasses = true
        ∧ (7 : BitVec 16) ≠ (Burst.read g.body).sequence ∧ (Burst.read g.body).headMask.getLsbD 0 = true
        ∧ actionOn (matchedMarker burstState.markers (Burst.read g.body).marker) 0 = none)
      ∧ (burstState.head 0).sendQueue.length < 8 ∧ (burstState.head 0).tracking.length < 32
      ∧ (Burst.read named.body).compare = true ∧ (burstState.head 0).capture = true ∧ fieldOf burstState ≠ 0
      ∧ (Burst.read drive.body).compare = false := by decide +kernel

/-- A Marker Table whose last entry alone matches the marker 0x80, with the given scope and action. -/
def marked (scope : BitVec 4) (act : MarkerAction) : State :=
  { linked workHead with
    expected := some 7
    markers := setAt (setAt (Vector.replicate 8 Marker.reset) 0 ⟨false, 0x80, 0xFF, 15, .captureOn⟩) 7
      ⟨true, 0x80, 0xC0, scope, act⟩ }

theorem witness_MarkerActsOnTheHeadsInItsScope :
    let f := burstFrame 7 0x11 0xBF 0 0 0
    let hits : State → Fin 8 → Bool := fun s k => s.markers[k].enabled
      && (Burst.read f.body).marker &&& s.markers[k].matchMask == s.markers[k].matchValue &&& s.markers[k].matchMask
    (∀ scope ∈ [(0xE : BitVec 4), 1], ∀ act ∈ [MarkerAction.captureOff, .captureOn, .logArm, .endSegment],
      let s := marked scope act
      placeable s f ∧ hits s 7 = true ∧ (∀ k : Fin 8, k < 7 → hits s k = false) ∧ s.markers[(7 : Fin 8)].action = act
        ∧ s.markers[(7 : Fin 8)].scope = scope ∧ (s.head 0).sendQueue.length < 8 ∧ (s.head 0).tracking.length < 32)
      ∧ (0xE : BitVec 4).getLsbD (0 : HeadId).val = false ∧ (1 : BitVec 4).getLsbD (0 : HeadId).val = true := by
  unfold placeable; decide +kernel

/-- END_SEGMENT with a compare burst, whose entry keeps the head in DRAINING; with a drive-only burst, with and without a
live item. -/
theorem witness_MarkerEndsTheSegmentAfterThePlacing :
    let s := marked 1 .endSegment
    let compare := burstFrame 7 0x11 0xBF 0 0 0
    let drive := burstFrame 7 0x01 0xBF 0 0 0
    placeable s compare ∧ (Burst.read compare.body).compare = true ∧ (s.head 0).capture = true ∧ fieldOf s ≠ 0
      ∧ placeable s drive ∧ (Burst.read drive.body).compare = false ∧ (s.head 0).tracking = []
      ∧ (s.analysis = [] ∧ s.engine = .idle)
      ∧ (({ s with engine := .item ⟨0, 5, 0, 0, 0, 0, 23, false⟩ false }).head 0).generation = 23 := by
  unfold placeable; decide +kernel

/-! ### Witnesses for the requests -/

/-- The request can be taken and is of the given form and passes its checks, in a part whose heads are all `hd`. -/
def runs (hd : Head) (r : Request) (form : RequestForm) : Prop :=
  (asked hd r).ready r [] ∧ r.passes form (asked hd r)

/-- A waiting access with its timer at its last quantum. -/
def waitingAccess : Access := ⟨.mainframe 1 20, true, 0x1234, 9, 0xF, false, 1, true⟩

/-- A head index of 4, an argument too few, an unknown code and an out-of-range selector; and a SEGMENT_OPEN for a head
that is not in READY. -/
theorem witness_FailedCheckIsAnsweredAndChangesNothing :
    (∀ r ∈ [(⟨1, 18, [4, 0]⟩ : Request), ⟨1, 18, [3]⟩], requestFormOf .eventClear = some .eventClear
      ∧ (asked workHead r).ready r [] ∧ r.form = .eventClear
      ∧ (r.args.length ≠ RequestForm.eventClear.argLength ∨ ∃ p ∈ RequestForm.eventClear.indices, p.2 ≤ (r.arg p.1).toNat))
    ∧ (∀ r ∈ [(⟨1, 0, []⟩ : Request), ⟨1, 21, []⟩, ⟨1, 9, [5]⟩, ⟨1, 10, [6]⟩],
      requestFormOf .unknownRequestCode = some .unknown ∧ (asked workHead r).ready r [] ∧ r.form = .unknown)
    ∧ (requestFormOf .segmentOpen = some .segmentOpen ∧ (asked workHead ⟨1, 12, [3]⟩).ready ⟨1, 12, [3]⟩ []
      ∧ (⟨1, 12, [3]⟩ : Request).form = .segmentOpen ∧ (⟨1, 12, [3]⟩ : Request).args.length = 1
      ∧ (∀ p ∈ RequestForm.segmentOpen.indices, ¬ p.2 ≤ ((⟨1, 12, [3]⟩ : Request).arg p.1).toNat)
      ∧ RequestForm.segmentOpen.accepted (asked workHead ⟨1, 12, [3]⟩) (⟨1, 12, [3]⟩ : Request).head = false) := by
  unfold State.ready; decide +kernel

theorem witness_ReadbackAnswersAndChangesNothing :
    runs workHead ⟨1, 1, []⟩ .deviceStatus ∧ runs workHead ⟨1, 8, [3]⟩ .headStatus
      ∧ ((asked workHead ⟨1, 1, [0]⟩).ready ⟨1, 1, [0]⟩ [] ∧ (⟨1, 1, [0]⟩ : Request).form = .deviceStatus)
      ∧ runs workHead ⟨1, 10, [0, 3]⟩ .readGeometry ∧ runs workHead ⟨1, 10, [1, 3, 7]⟩ .readWindow
      ∧ runs workHead ⟨1, 10, [2, 7]⟩ .readMarker ∧ runs workHead ⟨1, 10, [3, 7]⟩ .readLatencyClass
      ∧ runs workHead ⟨1, 10, [4, 3, 15]⟩ .readSiteLimits ∧ runs workHead ⟨1, 10, [5, 3, 15, 15]⟩ .readBlock
      ∧ runs workHead ⟨1, 15, [3]⟩ .verdictRead ∧ runs workHead ⟨1, 16, [3, 15]⟩ .repairRead := by
  unfold runs State.ready Request.passes
  refine ⟨?_, ?_, ?_, ?_, ?_, ?_, ?_, ?_, ?_, ?_, ?_⟩ <;> decide +kernel

/-- Accesses of a mainframe with and without a wanted reply, and of training. -/
theorem witness_DeviceResetRestoresPowerOnValues :
    let a : Access := ⟨.mainframe 7 20, false, 0, 0, 0, true, 40, true⟩
    let s := { asked workHead ⟨1, 2, []⟩ with
      heads := setAt (setAt (setAt (Vector.replicate 4 workHead) 1 { workHead with slot := some a }) 2
        { workHead with slot := some { a with replyWanted := false } }) 3
        { workHead with slot := some { a with origin := .profileRead } }
      reservations := [1] }
    s.ready ⟨1, 2, []⟩ [] ∧ (⟨1, 2, []⟩ : Request).passes .deviceReset s ∧ (s.head 0).slot = none
      ∧ (s.head 1).slot = some a ∧ (1 : HeadId) ∈ s.reservations := by
  unfold State.ready Request.passes; decide +kernel

/-- The lane signal present, and absent with the slot free and with an access whose reply is wanted; a site that is live,
one that is live and rejected, and one that is not enabled. -/
theorem witness_HeadStartBeginsTraining :
    let cut := { workIn .offline with laneSignal := false }
    let bad := cut.updSite 5 (fun st => { st with unmapped := true })
    let lost := { Head.reset with laneSignal := false, slot := some waitingAccess }
    let s := { asked lost ⟨1, 3, [0]⟩ with reservations := [0] }
    (runs Head.reset ⟨1, 3, [3]⟩ .headStart ∧ Head.reset.laneSignal = true)
    ∧ runs { Head.reset with laneSignal := false } ⟨1, 3, [0]⟩ .headStart
    ∧ (asked { Head.reset with laneSignal := false } ⟨1, 3, [0]⟩).abortedFor 0 = []
    ∧ (s.ready ⟨1, 3, [0]⟩ [] ∧ (⟨1, 3, [0]⟩ : Request).passes .headStart s ∧ (s.head 0).laneSignal = false
      ∧ s.abortedFor 0 = [.reply ⟨1, 20, .aborted, .empty⟩])
    ∧ (∀ hd ∈ [cut, bad], runs hd ⟨1, 3, [3]⟩ .headStart ∧ hd.laneSignal = false ∧ (hd.site 5).enabled = true
      ∧ (hd.site 5).verdict.isFinal = false ∧ (hd.site 0).enabled = false)
    ∧ (bad.site 5).unmapped = true ∧ (cut.site 5).unmapped = false ∧ (cut.site 5).stopReason = .none
    ∧ ∀ b, (cut.block 5 b).state ≠ .unrepairable := by
  unfold runs State.ready Request.passes; decide +kernel

/-- The slot free, and occupied by an access whose reply is wanted. -/
theorem witness_HeadResetClearsTheHead :
    let s := { asked { workHead with slot := some waitingAccess } ⟨1, 4, [3]⟩ with reservations := [3] }
    runs workHead ⟨1, 4, [3]⟩ .headReset ∧ (asked workHead ⟨1, 4, [3]⟩).abortedFor 3 = []
      ∧ (s.ready ⟨1, 4, [3]⟩ [] ∧ (⟨1, 4, [3]⟩ : Request).passes .headReset s
        ∧ s.abortedFor 3 = [.reply ⟨1, 20, .aborted, .empty⟩]) := by
  unfold runs State.ready Request.passes; decide +kernel

/-- Codes at their limits and one past them; a commit that holds with an IO count equal to the maximum, one that does
not, and one without a profile; a release. -/
theorem witness_SetupCommitAndRelease :
    (runs Head.reset ⟨1, 5, [3, 3, 1, 2, 3, 65]⟩ .headSetup ∧ CheckMode.zero.code = (3 : Byte)
      ∧ StopPolicy.stopOnReject.code = (1 : Byte) ∧ LogMode.onTrigger.code = (2 : Byte)
      ∧ (3 : Fin 4).val = (3 : Byte).toNat)
    ∧ (runs Head.reset ⟨1, 5, [3, 4, 1, 2, 3, 8]⟩ .headSetup ∧ 4 ≤ ((⟨1, 5, [3, 4, 1, 2, 3, 8]⟩ : Request).arg 1).toNat)
    ∧ runs { workIn .config with profile := some ⟨16, 8, 0⟩ } ⟨1, 6, [3]⟩ .headCommit
    ∧ runs { workIn .config with profile := some ⟨16, 7, 0⟩ } ⟨1, 6, [3]⟩ .headCommit
    ∧ runs { workIn .config with profile := none } ⟨1, 6, [3]⟩ .headCommit
    ∧ runs (workIn .ready) ⟨1, 7, [3]⟩ .headRelease := by
  unfold runs State.ready Request.passes
  refine ⟨?_, ?_, ?_, ?_, ?_, ?_⟩ <;> decide +kernel

/-- A geometry at its limits, one with BB equal to RB, and a window. -/
theorem witness_GeometryAndWindowWrites :
    runs Head.reset ⟨1, 9, [0, 3, 16, 12, 4, 16, 5, 4]⟩ .writeGeometry
    ∧ (runs Head.reset ⟨1, 9, [0, 3, 4, 12, 4, 16, 5, 4]⟩ .writeGeometry
      ∧ ¬ ((⟨1, 9, [0, 3, 4, 12, 4, 16, 5, 4]⟩ : Request).arg 4).toNat
        < ((⟨1, 9, [0, 3, 4, 12, 4, 16, 5, 4]⟩ : Request).arg 2).toNat)
    ∧ runs Head.reset (⟨1, 9, [1, 3, 7, 1] ++ List.replicate 16 0xFF⟩) .writeWindow := by
  unfold runs State.ready Request.passes; decide +kernel

theorem witness_SharedTableAndLimitWrites :
    (runs Head.reset ⟨1, 9, [2, 7, 1, 0, 0, 0xFF, 3]⟩ .writeMarker ∧ MarkerAction.endSegment.code = (3 : Byte))
    ∧ (runs Head.reset ⟨1, 9, [2, 7, 1, 0, 0, 0xFF, 4]⟩ .writeMarker
      ∧ 4 ≤ ((⟨1, 9, [2, 7, 1, 0, 0, 0xFF, 4]⟩ : Request).arg 6).toNat)
    ∧ runs Head.reset ⟨1, 9, [3, 7, 1, 0x3F, 0xFF, 0x40, 0]⟩ .writeLatencyClass
    ∧ runs Head.reset ⟨1, 9, [4, 3, 15, 0xFF, 0xFF, 1]⟩ .writeSiteLimits := by
  unfold runs State.ready Request.passes; decide +kernel

theorem witness_SetSitesStagesThePresentSites :
    runs workHead ⟨1, 11, [3, 0xFF, 0xFF]⟩ .setSites ∧ runs (workIn .config) ⟨1, 11, [0, 0, 0]⟩ .setSites := by
  unfold runs State.ready Request.passes; decide +kernel

theorem witness_SegmentOpenPreparesTheHead : runs (workIn .ready) ⟨1, 12, [3]⟩ .segmentOpen := by
  unfold runs State.ready Request.passes; decide +kernel

/-- A head with a tracking entry, one with an item queued, one whose blocks are to be solved, and one with none; the last
two in DRAINING too. -/
theorem witness_SegmentCloseDrainsTheHead :
    let r : Request := ⟨1, 13, [1]⟩
    let s := { asked workHead r with analysis := [item 3 0 0 5002] }
    let none_ := { workHead with blocks := Head.idleBlocks }
    runs { workHead with tracking := [workEntry] } r .segmentClose
    ∧ (s.ready r [] ∧ r.passes .segmentClose s ∧ (item 3 0 0 5002).head = r.head
      ∧ (item 3 0 0 5002).generation = (s.head 1).generation)
    ∧ (runs workHead r .segmentClose ∧ workHead.tracking = [] ∧ (asked workHead r).analysis = []
      ∧ (asked workHead r).engine = .idle ∧ (workHead.site 5).enabled = true ∧ (workHead.site 5).stopped = false
      ∧ (workHead.block 5 3).state = .collecting)
    ∧ (runs none_ r .segmentClose ∧ ∀ i b, (none_.block i b).state ≠ .collecting)
    ∧ (∀ hd ∈ [workHead, none_], (({ linked hd with heads := Vector.replicate 4 { hd with state := .draining } }).head
      1).state = .draining ∧ hd.tracking = [] ∧ (linked hd).analysis = [] ∧ (linked hd).engine = .idle)
    ∧ (none_.site 5).verdict.isFinal = false ∧ (linked workHead |>.head 1).state ≠ .draining := by
  unfold runs State.ready Request.passes; decide +kernel

theorem witness_StopSiteStopsOneSite :
    (runs workHead ⟨1, 14, [3, 15]⟩ .stopSite ∧ (workHead.site 15).enabled = false)
    ∧ (runs workHead ⟨1, 14, [3, 5]⟩ .stopSite ∧ (workHead.site 5).enabled = true ∧ (workHead.site 5).stopped = false
      ∧ (workHead.site 5).verdict.isFinal = false)
    ∧ (runs (workHead.stopSite 5 .manual) ⟨1, 14, [3, 5]⟩ .stopSite ∧ ((workHead.stopSite 5 .manual).site 5).stopped = true
      ∧ ((workHead.stopSite 5 .manual).site 5).enabled = true)
    ∧ (runs (workHead.updSite 5 (fun st => { st with verdict := .incomplete })) ⟨1, 14, [3, 5]⟩ .stopSite
      ∧ ((workHead.updSite 5 (fun st => { st with verdict := .incomplete })).site 5).verdict.isFinal = true) := by
  unfold runs State.ready Request.passes; decide +kernel

theorem witness_LogReadRemovesTheOldestEntries :
    let r : Request := ⟨1, 17, [3, 33]⟩
    (asked workHead r).ready r [] ∧ r.form = .logRead ∧ r.args.length = 2 ∧ (r.arg 0).toNat < 4 := by
  unfold State.ready; decide +kernel

/-- An event newly masked in with exactly the slots that its notice needs. -/
theorem witness_EventClearAndEventMask :
    runs { workHead with events := 0xFF } ⟨1, 18, [3, 0x80]⟩ .eventClear
    ∧ runs { workHead with events := 0x80 } ⟨1, 19, [3, 0xFF]⟩ .eventMask
    ∧ ({ asked { workHead with events := 0x80 } ⟨1, 19, [3, 0xFF]⟩ with
        upstream := List.replicate 29 (.notice ⟨0, .ready, 0⟩) } : State).ready ⟨1, 19, [3, 0xFF]⟩ [] := by
  unfold runs State.ready Request.passes; decide +kernel

theorem witness_MaintAccessIsTakenOrTurnedAway :
    let args : List Byte := [3, 1, 0xFF, 0xFF, 0xFF, 0, 0, 0, 0, 0xFF]
    let a : Access := ⟨.mainframe 1 20, true, 0, 0, 0, true, 4, true⟩
    runs { workIn .ready with slot := some a } ⟨1, 20, args ++ [0]⟩ .maintAccess
    ∧ (runs workHead ⟨1, 20, args ++ [0]⟩ .maintAccess ∧ (⟨1, 20, args ++ [0]⟩ : Request).arg 10 = 0
      ∧ workHead.state = .testing ∧ workHead.slot = none)
    ∧ (runs workHead ⟨1, 20, args ++ [1]⟩ .maintAccess ∧ (⟨1, 20, args ++ [1]⟩ : Request).arg 10 ≠ 0
      ∧ (3 : HeadId) ∉ (asked workHead ⟨1, 20, args ++ [1]⟩).reservations)
    ∧ runs (workIn .ready) ⟨1, 20, args ++ [0]⟩ .maintAccess := by
  unfold runs State.ready Request.passes; decide +kernel

/-! ### Witnesses for the lanes -/

theorem witness_LaneArbiterSendsOneUnit :
    let b : HeadBurst := ⟨3, true, .colFast, 0, 0, 0, 0, 1⟩
    let s := linked { workHead with sendQueue := [b] }
    let m := linked { workHead with slot := some waitingAccess }
    let p := linked { Head.reset with state := .training, phase := some .hunt, probeWaiting := true }
    ((s.head 3).transmitting = none ∧ (s.head 3).laneSignal = true ∧ (s.head 3).sendQueue = b :: [])
    ∧ ((m.head 3).transmitting = none ∧ (m.head 3).sendQueue = [] ∧ (m.head 3).slot = some waitingAccess
      ∧ waitingAccess.sent = false)
    ∧ ((p.head 3).transmitting = none ∧ (p.head 3).laneSignal = true ∧ (p.head 3).sendQueue = [] ∧ (p.head 3).slot = none
      ∧ (p.head 3).state = .training ∧ (p.head 3).phase = some .hunt ∧ (p.head 3).probeWaiting = true)
    ∧ (s.head 3).sendQueue ≠ [] ∧ (linked { workHead with transmitting := some b } |>.head 3).transmitting ≠ none
    ∧ (linked { workHead with laneSignal := false } |>.head 3).laneSignal = false := by decide +kernel

/-- Two entries in WAITING_SEND, of which the second has the burst's tag; the lane held and released; a drive-only burst,
and a burst without an entry. -/
theorem witness_BurstTransmitEndStartsTheDeadline :
    let e := { workEntry with deadline := .waitingSend }
    let pre := [workEntry, { e with tag := 8 }]
    let b : HeadBurst := ⟨9, true, .colFast, 4, 0, 0, 0, 0⟩
    let hd := { workHead with transmitting := some b, tracking := pre ++ [e] }
    hd.tracking = pre ++ e :: [] ∧ (∀ x ∈ pre, ¬ (x.tag = b.tag ∧ x.deadline = .waitingSend))
      ∧ (e.tag = b.tag ∧ e.deadline = .waitingSend) ∧ b.compare = true
      ∧ ((linked hd).head 3).transmitting = some b ∧ hd.laneHeld = false
      ∧ ((linked { hd with laneHeld := true }).head 3).laneHeld = true
      ∧ ({ b with compare := false } : HeadBurst).compare = false
      ∧ (∀ x ∈ pre, ¬ (x.tag = b.tag ∧ x.deadline = .waitingSend)) := by decide +kernel

/-- The longest round trip against a class of the longest maximum, and against none; an ECHO past the expiry; a head in HUNT
before the end of its probe; and a head outside HUNT. -/
theorem witness_EchoChoosesALatencyClass :
    let s := { linked (hunting 16000) with latency := setAt (Vector.replicate 8 LatencyClass.reset) 7 ⟨true, 16383, 1⟩ }
    let s' := s.elapse 382
    let fits : Fin 8 → Bool := fun i => s.latency[i].valid && decide (min (16382 + 1) 16383 ≤ s.latency[i].maxRoundTrip)
    ((s'.head 3).state = .training ∧ (s'.head 3).phase = some .hunt ∧ (s'.head 3).laneSignal = true
      ∧ (s'.head 3).roundTripTimer = some 16382 ∧ fits 7 = true ∧ ∀ j : Fin 8, j < 7 → fits j = false)
    ∧ (∀ i : Fin 8, ((linked (hunting 16000)).latency[i]).valid = false)
    ∧ (let late := s.elapse 384
      (late.head 3).state = .training ∧ (late.head 3).phase = some .hunt ∧ (late.head 3).laneSignal = true
        ∧ (late.head 3).roundTripTimer = some 16384)
    ∧ (let early := (linked { hunting 0 with roundTripTimer := none }).elapse 3
      (early.head 3).state = .training ∧ (early.head 3).phase = some .hunt ∧ (early.head 3).laneSignal = true
        ∧ (early.head 3).roundTripTimer = none)
    ∧ (((linked workHead).elapse 1).head 3).state ≠ .training := by decide +kernel

theorem witness_TimersEndTrainingAndAccesses :
    let s := { linked { workHead with slot := some waitingAccess } with reservations := [3] }
    let w := { waitingAccess with replyWanted := false }
    let p := { waitingAccess with origin := .profileRead, replyWanted := false }
    (((linked (hunting 16383)).head 3).state = .training ∧ ((linked (hunting 16383)).head 3).phase = some .hunt
      ∧ ((linked (hunting 16383)).head 3).roundTripTimer = some 16383)
    ∧ ((s.head 3).slot = some waitingAccess ∧ waitingAccess.origin = .mainframe 1 20 ∧ waitingAccess.replyWanted = true
      ∧ (3 : HeadId) ∈ s.reservations ∧ s.link = .inSync)
    ∧ (((linked { workHead with slot := some w }).head 3).slot = some w ∧ w.origin = .mainframe 1 20
      ∧ w.replyWanted = false)
    ∧ ((linked { Head.reset with slot := some p }).head 3).slot = some p ∧ p.origin = .profileRead := by decide +kernel

/-- Answers to a profile read with counts of 16 and of 17, to a mainframe access with and without a wanted reply, and
to an access that has not been sent. -/
theorem witness_MaintAnswerEndsTheAccess :
    let a := { waitingAccess with sent := true }
    let s := { linked { workHead with slot := some a } with reservations := [3] }
    let p := { a with origin := .profileRead, replyWanted := false }
    ((s.head 3).slot = some a ∧ a.sent = true ∧ (s.head 3).laneSignal = true ∧ a.origin = .mainframe 1 20
      ∧ a.replyWanted = true ∧ (3 : HeadId) ∈ s.reservations ∧ s.link = .inSync)
    ∧ ({ a with replyWanted := false } : Access).replyWanted = false
    ∧ (((linked { Head.reset with slot := some p }).head 3).slot = some p ∧ p.sent = true ∧ p.origin = .profileRead
      ∧ (1 ≤ (16 : Byte).toNat ∧ (16 : Byte).toNat ≤ 16) ∧ ¬ (1 ≤ (17 : Byte).toNat ∧ (17 : Byte).toNat ≤ 16))
    ∧ ((linked { workHead with slot := some waitingAccess }).head 3).slot = some waitingAccess
    ∧ waitingAccess.sent = false := by decide +kernel

theorem witness_SupplyLineStartsAndCancelsTheFenceTimer :
    ((linked workHead).head 3).supplyGood = true ∧ ((linked workHead).head 3).state ≠ .offline
      ∧ ((linked workHead).head 3).state ≠ .fenced
      ∧ ((linked Head.reset).head 3).supplyGood = true ∧ ((linked Head.reset).head 3).state = .offline := by
  decide +kernel

/-- A head with a live site, with and without an access whose reply is wanted. -/
theorem witness_FenceAndLaneLossCloseTheHead :
    let hd := { workHead with supplyGood := false, fenceTimer := some 0, slot := some waitingAccess }
    let s := { linked hd with reservations := [3] }
    (s.head 3).state ≠ .offline ∧ (s.head 3).state ≠ .fenced ∧ (s.head 3).fenceTimer = some 0
      ∧ (s.head 3).laneSignal = true ∧ (s.head 3).slot = some waitingAccess
      ∧ waitingAccess.origin = .mainframe 1 20 ∧ waitingAccess.replyWanted = true ∧ (3 : HeadId) ∈ s.reservations
      ∧ s.link = .inSync ∧ ((s.head 3).site 5).enabled = true ∧ ((s.head 3).site 5).verdict.isFinal = false
      ∧ ((s.head 3).site 0).enabled = false ∧ ((linked workHead).head 3).slot = none := by decide +kernel

theorem witness_QuietLaneEventsChangeThePresenceAlone :
    ∀ st ∈ [HeadState.offline, .fenced], let hd := { Head.reset with state := st, reception := some (.receiving 5) }
      ((linked hd).head 3).state = st ∧ ((linked hd).head 3).laneSignal = true ∧ ((linked hd).head 3).laneBuffer = []
        ∧ ((linked hd).head 3).tracking = [] ∧ ((linked hd).head 3).laneHeld = false
        ∧ ∀ kind ∈ [(0x1F : Byte), 0x23], kind ≠ 0x20 ∧ kind ≠ 0x21 ∧ kind ≠ 0x22 := by decide +kernel

/-! ### Witnesses for the result path -/

/-- The sizes of a head's queues, buffers and counts, as a test. -/
def fits (hd : Head) : Bool :=
  decide (hd.sendQueue.length ≤ Config.sendQueueSize ∧ hd.tracking.length ≤ Config.trackingQueueSize
    ∧ hd.log.length ≤ Config.failLogSize ∧ hd.bufferRecords ≤ Config.laneRecords
    ∧ hd.bufferEntries ≤ Config.laneEntries ∧ hd.laneHeld = hd.holdDue ∧ hd.strays ≤ Config.countTop
    ∧ hd.skipped ≤ Config.countTop ∧ ∀ i, (hd.site i).rawFails ≤ Config.countTop)

theorem capacity_of_fits (hd : Head) (h : fits hd = true) : hd.CapacityInv := by
  obtain ⟨h1, h2, h3, h4, h5, h6, h7, h8, h9⟩ := of_decide_eq_true h
  exact ⟨h1, h2, h3, h4, h5, h6, h7, h8, h9⟩

/-- The record of section 6.7 behind a record in the buffer, with an entry skipped and a RUNNING one behind its own. -/
theorem witness_ResultRecordIsMatchedAndBuffered :
    let old := { workEntry with tag := 6, deadline := .answered }
    let missed := { workEntry with tag := 8, deadline := .waitingSend }
    let next := { workEntry with tag := 10, deadline := .running 1 }
    let secs : List RecordSection := [⟨5, [⟨0, 0x0001, none⟩, ⟨2, 0x0005, none⟩, ⟨3, 0x0180, none⟩]⟩]
    let front : BufferedRecord := ⟨6, [⟨5, [⟨0, 1, none⟩]⟩]⟩
    let hd := { workHead with
      tracking := [old, missed, workEntry, next], laneBuffer := [front], reception := some (.receiving 3) }
    let rest := workUnit.drop 2
    (hd.state = .testing ∧ hd.laneSignal = true ∧ hd.laneHeld = false ∧ hd.reception ≠ some .discarding ∧ rest ≠ [])
    ∧ (workUnit = 9 :: 1 :: rest ∧ readRecord hd.setup.checkMode workUnit = some secs
      ∧ hd.laneBuffer.length + 1 < 32 ∧ ((hd.laneBuffer ++ [⟨9, secs⟩]).map BufferedRecord.entryCount).sum < 1024)
    ∧ (hd.tracking = [old] ++ [missed] ++ workEntry :: [next] ∧ (∀ k ∈ [old], k.deadline = .answered)
      ∧ (∀ k ∈ [missed], k.deadline ≠ .answered ∧ k.tag ≠ 9) ∧ workEntry.deadline ≠ .answered ∧ workEntry.tag = 9
      ∧ (∀ k ∈ [next], k.deadline ≠ .running 0))
    ∧ (hd.laneBuffer ++ [⟨9, secs⟩] = front :: [⟨9, secs⟩] ∧ front.sections = ⟨5, [⟨0, 1, none⟩]⟩ :: []) := by
  decide +kernel

/-- Records that find the lane buffer empty, in TESTING and in DRAINING: one with the overflow flag and without sections,
one whose only section has no entries, and one with such a section before another. -/
theorem witness_ResultRecordWithoutEntries :
    let empty : List Byte := [9, 0x80, 0xA5]
    let hollow : List Byte := [9, 1, 5, 0, 0, 0xA5]
    let leading : List Byte := [9, 2, 5, 0, 0, 4, 0, 1, 0, 0x00, 0x01, 0xA5]
    let hd := { workHead with tracking := [workEntry, { workEntry with tag := 10, deadline := .running 1 }] }
    (readRecord .none empty = some [] ∧ readRecord .none hollow = some [⟨5, []⟩]
      ∧ readRecord .none leading = some [⟨5, []⟩, ⟨4, [⟨0, 1, none⟩]⟩])
    ∧ workEntry.sites.getLsbD (5 : SiteId).val = true ∧ (0x80 : Byte).getLsbD 7 = true
    ∧ (([⟨5, []⟩, ⟨4, [⟨0, 1, none⟩]⟩] : List RecordSection).dropWhile (fun sec => sec.entries.isEmpty)).length = 1
    ∧ ∀ st ∈ [HeadState.testing, .draining], let s := linked { hd with state := st }
      (s.head 3).state = st ∧ (s.head 3).laneBuffer = [] ∧ (s.head 3).laneHeld = false ∧ (s.head 3).reception = none
        ∧ (s.head 3).tracking = [] ++ [] ++ workEntry :: [{ workEntry with tag := 10, deadline := .running 1 }] := by
  decide +kernel

/-- A section header that announces 1,025 entries of 3 bytes, and the bytes of all of them. -/
def longUnit : List Byte := [9, 1, 5, 4, 1] ++ List.replicate 3075 0

/-- The layout of 10.5: the record of section 6.7 with ignored bits set, in check mode EVEN, is its header, one section of 3
entries of 4 bytes, and the end mark; and what the lane counts in it and in its parts. -/
theorem witness_RecordLayout :
    let part : List Byte := [0xF5, 0, 3, 0, 0x00, 0x01, 0xFF, 2, 0x00, 0x05, 1, 3, 0x01, 0x80, 0xFE]
    let whole : List Byte := 9 :: 0x61 :: ([part].flatten ++ [0xA5])
    readRecord .even whole = some [⟨5, [⟨0, 0x0001, some true⟩, ⟨2, 0x0005, some true⟩, ⟨3, 0x0180, some false⟩]⟩]
      ∧ part = 0xF5 :: 0 :: 3 :: part.drop 3 ∧ (part.drop 3).length = (0 * 256 + 3) * 4 ∧ (0x61 : Byte).toNat % 32 = 1
      ∧ countEntries .even whole = 3 ∧ countEntries .even (9 :: 0x62 :: ([part].flatten ++ [7, 0])) = 3
      ∧ countEntries .even (9 :: 0x62 :: ([part].flatten ++ 7 :: 1 :: 0 :: List.replicate 1023 0)) = 258 := by
  decide +kernel

/-- A discarded remainder, a unit of two bytes, an oversize unit, a stray outside TESTING, a stray by its tag, and a
framing failure of a RUNNING entry in TESTING and in DRAINING, with and without an entry skipped. -/
theorem witness_ResultRecordIsDiscarded :
    let missed := { workEntry with tag := 8 }
    Head.CapacityInv { workHead with tracking := [workEntry], reception := none }
    ∧ Head.CapacityInv { workIn .draining with tracking := [workEntry], reception := none }
    ∧ (workEntry.deadline ≠ .answered ∧ workEntry.deadline ≠ .running 0 ∧ (workIn .draining).state = .draining)
    ∧ Head.CapacityInv { workHead with tracking := [], reception := some .discarding }
    ∧ (workHead.laneSignal = true ∧ workHead.laneHeld = false ∧ workHead.state = .testing
      ∧ workHead.laneBuffer.length + 1 < 32
      ∧ (workHead.laneBuffer.map BufferedRecord.entryCount).sum + min 1025 1023 < 1024)
    ∧ (countEntries .none longUnit = 1025 ∧ ([9, 0] : List Byte).length < 3)
    ∧ (3 ≤ workUnit.length ∧ countEntries .none workUnit = 3 ∧ byteAt workUnit 0 = 9 ∧ workEntry.tag = byteAt workUnit 0)
    ∧ (3 ≤ (workUnit.dropLast).length ∧ countEntries .none workUnit.dropLast ≤ 1024
      ∧ readRecord .none workUnit.dropLast = none)
    ∧ Head.CapacityInv { workHead with tracking := [missed, workEntry], reception := none }
    ∧ ([missed, workEntry] = [] ++ [missed] ++ workEntry :: [] ∧ missed.deadline ≠ .answered
      ∧ missed.deadline ≠ .running 0 ∧ missed.tag ≠ byteAt workUnit.dropLast 0
      ∧ workEntry.tag = byteAt workUnit.dropLast 0) :=
  ⟨capacity_of_fits _ (by decide +kernel), capacity_of_fits _ (by decide +kernel), by decide +kernel,
    capacity_of_fits _ (by decide +kernel), by decide +kernel, by decide +kernel, by decide +kernel, by decide +kernel,
    capacity_of_fits _ (by decide +kernel), by decide +kernel⟩

/-- The 1,024th entry of a record that begins an empty buffer, which holds nothing; and the first of one that makes 32
records. -/
theorem witness_FailEntryArrivalCountsAndHolds :
    let hd := { workHead with reception := some (.receiving 1023) }
    let full := { workHead with laneBuffer := List.replicate 31 ⟨9, [⟨5, [⟨0, 1, none⟩]⟩]⟩ }
    (hd.laneSignal = true ∧ hd.laneHeld = false ∧ (∀ k ∈ hd.tracking, k.deadline ≠ .running 0)
      ∧ ¬ (32 ≤ hd.laneBuffer.length + 1)
      ∧ ¬ (1024 ≤ (hd.laneBuffer.map BufferedRecord.entryCount).sum + 1024 ∧ 1024 ≠ 1024))
    ∧ (full.laneSignal = true ∧ full.laneHeld = false ∧ (∀ k ∈ full.tracking, k.deadline ≠ .running 0)
      ∧ 32 ≤ full.laneBuffer.length + 1) := by decide +kernel

/-- An answered entry, the one that expires, one that is overdue by then, and one that is not; and overdue entries in
front with none behind. -/
theorem witness_TrackingExpiryRetiresTheOldestUnanswered :
    let old := { workEntry with tag := 8, deadline := .answered }
    let overdue := { workEntry with tag := 10, deadline := .running 20 }
    let next := { workEntry with tag := 11, deadline := .running 21 }
    let gone := { workEntry with deadline := .running 0 }
    let s := linked { workHead with tracking := [old, workEntry, overdue, next] }
    (s.head 3).state = .testing ∧ ((linked (workIn .draining)).head 3).state = .draining
      ∧ (s.head 3).tracking = [old] ++ workEntry :: ([overdue] ++ [next])
      ∧ (∀ k ∈ [old], k.deadline = .answered) ∧ workEntry.deadline = .running 20
      ∧ overdue.deadline = .running 20 ∧ 20 ≤ 20 ∧ next.deadline = .running 21 ∧ 20 < 21
      ∧ ((linked { workHead with tracking := [old, gone, gone] }).head 3).tracking = [old] ++ [gone, gone] ++ []
      ∧ next.deadline ≠ .running 0 := by decide +kernel

/-- The head of section 6.7 at its three entries, with a RUNNING entry behind; a stray section, an entry at offset 4, too
little room, the site stopped, and a pass-through window; and the last entry of the last section, with an empty buffer and
with a whole record behind it. Then a lane that is held by 32 records, and released when the first is finished with, and one
whose record under reception keeps it held; with a PAUSED deadline, and one that is overdue. -/
theorem witness_FailEntryAdmitTakesInOneEntry :
    let te := { workEntry with deadline := .answered }
    let next := { workEntry with tag := 10, deadline := .running 1 }
    let hd := { bufferedHead with tracking := [te, next] }
    let e : FailEntry := ⟨0, 0x0001, none⟩
    let es : List FailEntry := [⟨2, 0x0005, none⟩, ⟨3, 0x0180, none⟩]
    let behind : BufferedRecord := ⟨10, [⟨5, [e]⟩]⟩
    let last := { hd with laneBuffer := [⟨9, [⟨5, [e]⟩]⟩] }
    let held := { last with
      laneBuffer := last.laneBuffer ++ List.replicate 31 behind, laneHeld := true
      tracking := [te, { next with deadline := .paused 1 }, { next with deadline := .paused 0 }] }
    let arriving := { held with
      laneBuffer := hd.laneBuffer ++ List.replicate 30 behind, reception := some (.receiving 5) }
    (Head.CapacityInv hd ∧ Head.CapacityInv last ∧ Head.CapacityInv { last with laneBuffer := last.laneBuffer ++ [behind] }
      ∧ Head.CapacityInv held ∧ Head.CapacityInv arriving)
    ∧ (held.laneHeld = true ∧ held.laneBuffer = ⟨9, ⟨5, [e]⟩ :: []⟩ :: List.replicate 31 behind
      ∧ (∀ k ∈ held.tracking, k.deadline ≠ .running 0))
    ∧ (hd.laneBuffer = ⟨9, ⟨5, e :: es⟩ :: []⟩ :: [] ∧ hd.tracking = te :: [next] ∧ te.deadline = .answered
      ∧ hd.laneHeld = false ∧ hd.reception = none ∧ (∀ k ∈ hd.tracking, k.deadline ≠ .running 0)
      ∧ te.sites.getLsbD 5 = true ∧ es ≠ [])
    ∧ (last.laneBuffer = ⟨9, ⟨5, [e]⟩ :: []⟩ :: [] ∧ behind.sections = ⟨5, [e]⟩ :: [] ∧ [e] ≠ []
      ∧ last.tracking = te :: [next])
    ∧ te.sites.getLsbD 4 = false
    ∧ (hd.setup.checkMode = .none ∧ e.offset.toNat < te.vectors
      ∧ te.vectors ≤ (⟨4, 1, none⟩ : FailEntry).offset.toNat
      ∧ (failsOf hd te e).countP Fail.isMapped = 1
      ∧ 512 - (List.replicate 512 (item 0 0 0 0)).length < 1 ∧ 1 ≤ 512 - (List.replicate 511 (item 0 0 0 0)).length)
    ∧ ((hd.site 5).stopped = false ∧ (hd.site 5).failLimit = 0 ∧ (∀ f ∈ failsOf hd te e, f.isMapped = true)
      ∧ ((hd.stopSite 5 .manual).site 5).stopped = true)
    ∧ (let five : FailEntry := ⟨3, 0x0180, some true⟩
      (List.range 8).countP (fun k => five.offset.getLsbD k) + (List.range 16).countP (fun k => five.ioMask.getLsbD k)
        + (if five.checkBit = some true then 1 else 0) = 5
      ∧ 5 % 2 = 1) := by
  exact ⟨⟨capacity_of_fits _ (by decide +kernel), capacity_of_fits _ (by decide +kernel),
    capacity_of_fits _ (by decide +kernel), capacity_of_fits _ (by decide +kernel),
    capacity_of_fits _ (by decide +kernel)⟩, by decide +kernel⟩

/-- A Fail Log with `n` entries. -/
def logOf (n : Nat) : List LogEntry := List.replicate n ⟨.unmapped, 5, none, none, none, some 0, 0⟩

/-- A stopped site, a limit reached and one not reached, either policy, and logging that does not apply, applies with
room, and applies with a full log. -/
theorem witness_GateCountsStopsAndQueues :
    let hd := workHead.updSite 5 (fun st => { st with failLimit := 4, rawFails := 3 })
    let open_ := workHead.updSite 5 (fun st => { st with failLimit := 5, rawFails := 3 })
    ((workHead.stopSite 5 .manual).site 5).stopped = true
    ∧ (((linked hd).head 3).site 5).stopped = false ∧ (((linked hd).head 3).site 5).enabled = true
    ∧ (((linked hd).head 3).site 5).failLimit ≠ 0
    ∧ min ((((linked hd).head 3).site 5).rawFails + 1) 65535 = (((linked hd).head 3).site 5).failLimit
    ∧ min ((((linked open_).head 3).site 5).rawFails + 1) 65535 ≠ (((linked open_).head 3).site 5).failLimit
    ∧ ((open_.site 5).stopped = false ∧ (open_.site 5).enabled = true
      ∧ workHead.setup.stopPolicy = .keepTesting
      ∧ ({ workHead.setup with stopPolicy := .stopOnReject } : Setup).stopPolicy = .stopOnReject)
    ∧ (∀ on ∈ [true, false],
      ((workHead.updSite 5 (fun st => { st with logEnable := on })).site 5).logEnable = on)
    ∧ (workHead.setup.logMode = .always ∧ (logOf 255).length < 256 ∧ 256 ≤ (logOf 256).length)
    ∧ (Fail.mapped 0 0 0 0).isMapped = true ∧ (Fail.unmapped 0 0).isMapped = false := by decide +kernel

/-! ### Witnesses for repair analysis -/

/-- Both kinds of work with counts of 7 and 8; an item that passes the dequeue check, one of an older generation, and one
for a stopped site of a head in DRAINING. -/
theorem witness_ArbiterChoosesByTheCount :
    let it := item 3 0 0 5002
    let old := { it with generation := 22 }
    let s := { linked workHead with analysis := [it], solveList := [⟨2, 5, 0, 23⟩], arbiterCount := 7 }
    (s.analysis = it :: [] ∧ s.engine = .idle ∧ s.analysis ≠ [] ∧ s.arbiterCount < 8
      ∧ it.generation = (s.head it.head).generation ∧ ((s.head it.head).site it.site).stopped = false
      ∧ ((s.head it.head).block it.site it.block).state = .collecting)
    ∧ (old.generation ≠ (s.head old.head).generation ∧ (s.head old.head).state ≠ .draining)
    ∧ (let halted := linked ((workIn .draining).stopSite 5 .manual)
      (halted.head it.head).state = .draining ∧ it.generation = (halted.head it.head).generation
        ∧ ((halted.head it.head).site it.site).stopped = true)
    ∧ (8 ≤ ({ s with arbiterCount := 8 } : State).arbiterCount ∧ s.solveList = ⟨2, 5, 0, 23⟩ :: [])
    ∧ ({ s with engine := .item it false } : State).engine ≠ .idle
    ∧ ((asked workHead ⟨1, 2, []⟩).requests = [⟨1, 2, []⟩] ∧ (⟨1, 2, []⟩ : Request).form = .deviceReset)
    ∧ after .upstreamSend (linked workHead) = linked workHead := by decide +kernel

/-- Items for block 3 in its last state of section 7.6, in TESTING and in DRAINING: covered by row 0, a duplicate of (11,
50), and a new one that makes the block UNREPAIRABLE with two log entries, for which there is room for one; either stop
policy; and an item that has been overtaken. And the block of section 7.7, where the item's own row is must and the cascade
reaches its last line. -/
theorem witness_ItemCompletionActsOnTheBlock :
    let b := lateBlock .collecting
    let hd := { workHead.setBlock 5 3 b with log := logOf 255 }
    let it := item 3 0 99 7001
    let fatal := item 3 13 70 9500
    (hd.state = .testing ∧ hd.setup.stopPolicy = .keepTesting ∧ (hd.site it.site).logEnable = true
      ∧ hd.setup.logMode = .always ∧ it.generation = hd.generation ∧ (hd.site it.site).stopped = false
      ∧ (hd.site it.site).enabled = true ∧ (hd.block it.site it.block).state = .collecting)
    ∧ (∀ st ∈ [HeadState.testing, .draining], ∀ p ∈ [StopPolicy.keepTesting, .stopOnReject],
      ∀ i ∈ [it, item 3 11 50 9006, fatal], ∀ o ∈ [false, true],
      let hd' := { hd with state := st, setup := { hd.setup with stopPolicy := p } }
      let s := { linked hd' with engine := Engine.item i o }
      s.engine = .item i o ∧ s.head i.head = hd')
    ∧ ((processItem hd.geometry b fatal).1.state = .unrepairable
      ∧ 256 - hd.log.length < (processItem hd.geometry b fatal).2.length)
    ∧ (it.row ∈ b.rows ∧ (∃ e ∈ b.fails, e.row = 11 ∧ e.col = 50) ∧ ∀ e ∈ b.fails, ¬ (e.row = 13 ∧ e.col = 70))
    ∧ (let open_ := cascadeBlock.append 1 40 20000
      let after := (open_.commit (.row 1)).commit (.col 30)
      (∀ e ∈ cascadeBlock.fails, ¬ (e.row = 1 ∧ e.col = 40)) ∧ cascadeBlock.rows = [] ∧ cascadeBlock.cols = []
        ∧ (2 - open_.cols.length < open_.fails.countP (fun e => e.row == 1) ∧ open_.rows.length < 2)
        ∧ after.fails = [⟨5, 50, 1, 0⟩, ⟨5, 60, 1, 0⟩] ∧ (2 - after.cols.length < 2 ∧ after.rows.length < 2)) := by
  decide +kernel

/-- A job of block 3 with and without a solution, overtaken, last and not last, and with another block of its site in
QUEUED. -/
theorem witness_SolveJobCompletionSettlesTheBlock :
    let hd := { (workHead.setBlock 5 3 (lateBlock .queued)) with state := .solving }
    let j : SolveJob := ⟨1, 5, 3, 23⟩
    let more := hd.setBlock 5 2 (lateBlock .queued)
    (∀ f ∈ [some ⟨[11], [60]⟩, none], ∀ o ∈ [false, true],
      let s := { linked hd with engine := Engine.job j f o }
      s.engine = .job j f o ∧ s.head j.head = hd)
    ∧ (j.generation = hd.generation ∧ (hd.block j.site j.block).state = .queued
      ∧ (linked hd).solveList = [] ∧ (hd.site j.site).verdict.isFinal = false
      ∧ ∀ c, c ≠ j.block → (hd.block j.site c).state ≠ .queued)
    ∧ (more.block j.site 2).state = .queued ∧ (⟨1, 5, 2, 23⟩ : SolveJob).head = j.head := by decide +kernel

theorem opened_atRest (g : Geometry) : Block.opened.AtRest g where
  sound := ⟨Nat.zero_le _, Nat.zero_le _, List.nodup_nil, List.nodup_nil, List.nodup_nil, by simp [Block.opened]⟩
  rowCounts _ := Nat.zero_le _
  colCounts _ := Nat.zero_le _
  bound := Nat.zero_le _

/-- Without spares the first fail of a block makes it UNREPAIRABLE. -/
theorem witness_RejectedBlocksHaveNoRepair :
    let g := { workHead.geometry with sr := 0, sc := 0 }
    Block.opened.state = .collecting ∧ Block.opened.AtRest g
      ∧ (processItem g Block.opened (item 0 0 0 0)).1.state = .unrepairable :=
  ⟨rfl, opened_atRest _, by decide +kernel⟩

/-- The block of section 8.6, which has a solution; row 12 would do as well as row 11, and comes later in the list. -/
theorem witness_SolveFindsARepairExactlyWhenOneExists :
    Block.Sound workHead.geometry (lateBlock .queued)
      ∧ solve workHead.geometry (lateBlock .queued) = some ⟨[11], [60]⟩
      ∧ (∀ e ∈ (lateBlock .queued).fails, e.row ∈ [12] ∨ e.col ∈ [50])
      ∧ ([50] : List Nat).length ≤ (lateBlock .queued).colsLeft workHead.geometry
      ∧ ((lateBlock .queued).fails.map (fun e => e.row)).idxOf 11 < ((lateBlock .queued).fails.map (fun e => e.row)).idxOf 12 :=
  ⟨⟨by decide, by decide, by decide, by decide, by decide, by decide⟩, by decide +kernel, by decide, by decide, by decide⟩

/-- The largest geometry at its last row and column, in both orders, and the smallest. -/
theorem witness_FailAddressesStayInRange :
    let big : Geometry := ⟨true, 16, 12, 4, 16, 4, 4⟩
    let small : Geometry := ⟨true, 1, 1, 0, 1, 0, 0⟩
    (∀ g ∈ [big, small], 1 ≤ g.rb ∧ g.rb ≤ 16 ∧ 1 ≤ g.cb ∧ g.cb ≤ 12 ∧ g.bb ≤ 4 ∧ g.bb < g.rb ∧ 1 ≤ g.ioc ∧ g.ioc ≤ 16)
    ∧ (65535 < 2 ^ big.rb ∧ 4095 < 2 ^ big.cb)
    ∧ (workEntry.baseRow < 2 ^ workHead.geometry.rb ∧ workEntry.baseCol < 2 ^ workHead.geometry.cb)
    ∧ (workEntry.order = .colFast ∧ ({ workEntry with order := .rowFast } : TrackEntry).order = .rowFast)
    ∧ (let l := logicalWord workHead.geometry (expand workHead.geometry .colFast 1023 254 0)
      let hits : Head → Fin 8 → Bool := fun hd i => hd.windows[i].enabled
        && (l &&& hd.windows[i].matchMask) == (hd.windows[i].matchBase &&& hd.windows[i].matchMask)
      hits workHead 1 = true ∧ (∀ j : Fin 8, j < 1 → hits workHead j = false)
        ∧ ∀ i : Fin 8, hits { workHead with windows := Vector.replicate 8 Window.reset } i = false)
    ∧ (Fail.mapped 0 1023 2032 5000 ∈ failsOf workHead workEntry ⟨0, 1, none⟩)
    ∧ Fail.unmapped 262142 5000
      ∈ failsOf { workHead with windows := Vector.replicate 8 Window.reset } workEntry ⟨0, 1, none⟩ := by decide +kernel

theorem witness_RaisedEventJoinsTheSetAndMayMakeANotice :
    HeadEvent.sequenceError.isIn ((linked { workHead with events := 0x80 }).head 3).events = true
      ∧ HeadEvent.sequenceError.isIn ((linked { workHead with events := 0x7F }).head 3).events = false := by
  decide +kernel

/-! ### Witnesses for what every step keeps -/

@[simp] theorem linked_head (hd : Head) (h : HeadId) : (linked hd).head h = hd := by
  simp [linked, State.head, Vector.getElem_replicate]

/-- A synchronised part in which a segment is under way and a frame waits to be sent. -/
def running : State := { linked workHead with upstream := [.notice ⟨0, .testing, 1⟩], pending := [.upstreamSend] }

@[simp] theorem running_head (h : HeadId) : running.head h = workHead := linked_head workHead h

theorem running_linkInv : running.LinkInv :=
  ⟨rfl, by decide, by decide, by decide, by decide, by decide, by decide, by decide⟩

theorem running_lifeInv : running.LifeInv where
  heads h := by
    rw [running_head]
    exact ⟨by decide, by simp [workHead, Head.reset], by simp [workHead, Head.reset], by decide, by decide, by decide⟩
  reserved h := by simp [running, linked, State.reset, State.head, workHead, Head.reset]
  items := by simp [running, linked, State.reset]
  item := by simp [running, linked, State.reset]
  jobs := by simp [running, linked, State.reset]
  job := by simp [running, linked, State.reset]

theorem workHead_block : ∀ i b, workHead.block i b ∈ [Block.opened, Block.reset] := by decide +kernel

theorem workHead_sound (i : SiteId) (b : BlockId) : (workHead.block i b).Sound workHead.geometry := by
  have h := workHead_block i b
  simp only [List.mem_cons, List.not_mem_nil, or_false] at h
  rcases h with h | h <;> rw [h]
  · exact (opened_atRest _).sound
  · exact ⟨Nat.zero_le _, Nat.zero_le _, List.nodup_nil, List.nodup_nil, List.nodup_nil, by simp [Block.reset]⟩

theorem running_blockInv : running.BlockInv where
  spares h := by rw [running_head]; decide
  sound h i b := by rw [running_head]; exact workHead_sound i b
  size h i b := by
    rw [running_head]
    have h := workHead_block i b
    simp only [List.mem_cons, List.not_mem_nil, or_false] at h
    rcases h with h | h <;> rw [h] <;> decide
  atRest h i b := by
    rw [running_head]
    have h := workHead_block i b
    simp only [List.mem_cons, List.not_mem_nil, or_false] at h
    rcases h with h | h <;> rw [h]
    · exact fun _ => opened_atRest _
    · exact fun h => absurd h (by decide)
  job := by simp [running, linked, State.reset]

theorem running_intakeInv (h : HeadId) : (running.head h).IntakeInv := by
  rw [running_head]
  exact ⟨⟨[], [], rfl, by simp, by simp, rfl⟩, by simp [workHead, Head.reset], by simp [workHead, Head.reset]⟩

theorem running_tagRun (h : HeadId) : (running.head h).TagRun := by rw [running_head]; rfl

theorem running_steps : step running = .next (after .upstreamSend { running with pending := [] }) := rfl

theorem witness_ItemProcessingKeepsTheBlockAtRest :
    workHead.geometry.sr ≤ 4 ∧ workHead.geometry.sc ≤ 4 ∧ Block.opened.state = .collecting
      ∧ Block.opened.AtRest workHead.geometry
      ∧ running.LifeInv ∧ running.BlockInv ∧ ∃ t, step running = .next t :=
  ⟨by decide, by decide, rfl, opened_atRest _, running_lifeInv, running_blockInv, _, running_steps⟩

theorem witness_StepKeepsTheLinkInvariant : running.LinkInv ∧ ∃ t, step running = .next t :=
  ⟨running_linkInv, _, running_steps⟩

theorem witness_StepKeepsTheCapacities : running.CapacityInv ∧ ∃ t, step running = .next t :=
  ⟨⟨fun h => by rw [running_head]; exact capacity_of_fits _ (by decide +kernel), by decide, by decide⟩, _, running_steps⟩

theorem witness_StepKeepsTheLifeInvariant : running.LinkInv ∧ running.LifeInv ∧ ∃ t, step running = .next t :=
  ⟨running_linkInv, running_lifeInv, _, running_steps⟩

theorem witness_StepKeepsTheIntakeInvariant :
    (∀ h, (running.head h).IntakeInv) ∧ ∃ t, step running = .next t :=
  ⟨running_intakeInv, _, running_steps⟩

theorem witness_StepKeepsTheTagsConsecutive : running.LinkInv ∧ running.LifeInv
    ∧ (∀ h, (running.head h).IntakeInv) ∧ (∀ h, (running.head h).TagRun) ∧ ∃ t, step running = .next t :=
  ⟨running_linkInv, running_lifeInv, running_intakeInv, running_tagRun, _, running_steps⟩

/-- A fence in a segment, with a site outside it that is MASKED. -/
theorem witness_FinalVerdictsChangeOnlyByReopening :
    let hd := workHead.updSite 0 (fun st => { st with verdict := .masked })
    let s := linked { hd with supplyGood := false, fenceTimer := some 1 }
    let c := Instr.fenceTimerExpiry 1
    c ≠ .powerOn ∧ c ≠ .deviceReset ∧ c ≠ .headReset ∧ c ≠ .segmentOpen ∧ exec c s = .next (after c s)
      ∧ ((s.head 1).site 0).verdict.isFinal = true := by
  refine ⟨by decide, by decide, by decide, by decide, rfl, by decide +kernel⟩

/-- A state with a SEGMENT_OPEN that meets the heads' invariant. -/
theorem opening_lifeInv : (asked (workIn .ready) ⟨1, 12, [3]⟩).LifeInv where
  heads h := by
    have e : (asked (workIn .ready) ⟨1, 12, [3]⟩).head h = workIn .ready := linked_head _ h
    rw [e]
    exact ⟨by decide, by simp [workIn, workHead, Head.reset], by simp [workIn, workHead, Head.reset], by decide,
      by decide, by decide⟩
  reserved h := by simp [asked, linked, State.reset, State.head, workIn, workHead, Head.reset]
  items := by simp [asked, linked, State.reset]
  item := by simp [asked, linked, State.reset]
  jobs := by simp [asked, linked, State.reset]
  job := by simp [asked, linked, State.reset]

/-- A fence, and a SEGMENT_OPEN. -/
theorem witness_NewGenerationEndsOlderWork :
    let s := linked { workHead with supplyGood := false, fenceTimer := some 1 }
    let r := asked (workIn .ready) ⟨1, 12, [3]⟩
    exec (.fenceTimerExpiry 1) s = .next (after (.fenceTimerExpiry 1) s)
      ∧ ((after (.fenceTimerExpiry 1) s).head 1).generation ≠ (s.head 1).generation
      ∧ r.LifeInv ∧ exec .segmentOpen r = .next (after .segmentOpen r)
      ∧ ((after .segmentOpen r).head 3).generation ≠ (r.head 3).generation :=
  ⟨rfl, by decide +kernel, opening_lifeInv, rfl, by decide +kernel⟩

/-- A lane loss; and each of the five commands by which time passes, with its timer and without. -/
theorem witness_LaneEventsTouchTheirOwnHead :
    let access := linked { workHead with slot := some waitingAccess }
    let fencing := linked { workHead with supplyGood := false, fenceTimer := some 3 }
    let tracked := linked { workHead with tracking := [{ workEntry with deadline := .answered }, workEntry] }
    (laneOf (.laneSignalLoss 3) = some 3
      ∧ exec (.laneSignalLoss 3) (linked workHead) = .next (after (.laneSignalLoss 3) (linked workHead)))
    ∧ exec (.echo 3 2) (linked (hunting 5)) = .next (after (.echo 3 2) (linked (hunting 5)))
    ∧ (exec (.roundTripTimeout 3) (linked (hunting 16384)) = .next (after (.roundTripTimeout 3) (linked (hunting 16384)))
      ∧ (hunting 16384).state = .training ∧ (hunting 16384).phase = some .hunt
      ∧ (hunting 16384).roundTripTimer = some 16384)
    ∧ (exec (.proxyTimeout 3) access = .next (after (.proxyTimeout 3) access)
      ∧ (access.head 3).slot = some waitingAccess)
    ∧ (exec (.fenceTimerExpiry 3) fencing = .next (after (.fenceTimerExpiry 3) fencing)
      ∧ (fencing.head 3).state = .testing ∧ (fencing.head 3).fenceTimer = some 3)
    ∧ (exec (.trackingExpiry 3) tracked = .next (after (.trackingExpiry 3) tracked)
      ∧ (tracked.head 3).tracking = [{ workEntry with deadline := .answered }] ++ workEntry :: []
      ∧ workEntry.deadline = .running 20)
    ∧ (workHead.roundTripTimer = none ∧ workHead.slot = none ∧ workHead.fenceTimer = none ∧ workHead.tracking = []) :=
  ⟨⟨rfl, rfl⟩, rfl, ⟨rfl, rfl, rfl, rfl⟩, ⟨rfl, by decide +kernel⟩, ⟨rfl, by decide +kernel, by decide +kernel⟩,
    ⟨rfl, by decide +kernel, rfl⟩, by decide +kernel⟩

end Sys2Proof.Tests
end

section
/-! The end of draining (R47 to R49, R134): what it does to the head, to the Solve List and to the Upstream Queue, for
the drain test of every event and for SEGMENT_CLOSE. -/

namespace Sys2Proof.Machine

/-! ### An event and its notice (R13, R153, R154) -/

/-- Raising an event changes the heads and the Upstream Queue alone. -/
theorem State.raise_frame (s : State) (h : HeadId) (e : HeadEvent) :
    s.raise h e = { s with heads := (s.raise h e).heads, upstream := (s.raise h e).upstream } := by
  simp only [State.raise, State.offerNotice]
  split_ifs <;> rfl

/-- The two free slots that a NOTICE needs, with the slot of a request under execution taken off (R13). -/
theorem State.two_le_freeSlots_iff (s : State) :
    2 ≤ s.freeSlots ↔ s.upstream.length + s.reservations.length + max 0 (if s.executing = none then 0 else 1) + 2
      ≤ Config.upstreamQueueSize := by
  cases he : s.executing <;> simp [State.freeSlots, he, Config.upstreamQueueSize] <;> omega

/-- What raising an event adds to the Upstream Queue: the notice of the head as it then stands, if one is made. -/
theorem State.upstream_raise (s : State) (h : HeadId) (e : HeadEvent) :
    (s.raise h e).upstream = s.upstream ++ s.noticesFor h e (s.head h) ((s.raise h e).head h) 0 := by
  rw [State.head_raise_self]
  cases hin : e.isIn (s.head h).events with
  | true => simp [State.raise, State.noticesFor, hin]
  | false =>
    cases hmask : e.isIn (s.head h).mask with
    | false => simp [State.raise, State.noticesFor, hin, hmask]
    | true =>
      have hfree (f : Head → Head) : (s.updHead h f).freeSlots = s.freeSlots := rfl
      simp only [State.raise, State.noticesFor, State.offerNotice, hin, hmask, hfree, State.updHead_link,
        State.two_le_freeSlots_iff, State.head_updHead_self, true_and, if_true, if_false, Bool.false_eq_true]
      split_ifs <;> simp

theorem State.ready_executing {s : State} {r : Request} {rest : List Request} (hr : s.ready r rest) :
    s.executing = none := by
  obtain ⟨-, he, -, -⟩ := hr
  exact he

/-- While a request is executed, the slot assigned to its reply is one slot less for notices (R13). -/
theorem State.noticesFor_take {s : State} {r : Request} {rest : List Request} (hr : s.ready r rest) (h : HeadId)
    (e : HeadEvent) (before after : Head) :
    (s.take r rest).noticesFor h e before after 0 = s.noticesFor h e before after 1 := by
  simp [State.noticesFor, State.take, State.ready_executing hr]

/-! ### The end of draining on one head (R49, R58, R134) -/

theorem Site.solvable_iff (st : Site) : st.solvable = true ↔ st.enabled = true ∧ st.stopped = false := by
  simp [Site.solvable]

theorem Head.block_queueBlocks (hd : Head) (i : SiteId) (b : BlockId) :
    hd.queueBlocks.block i b
      = if (hd.site i).solvable = true ∧ (hd.block i b).state = .collecting then
          { hd.block i b with state := .queued }
        else hd.block i b :=
  Head.block_mapBlocks _ _ i b

theorem Head.any_blocks_iff (hd : Head) (i : SiteId) (p : Block → Bool) :
    hd.blocks[i].toList.any p = true ↔ ∃ b, p (hd.block i b) = true := by
  simp only [List.any_eq_true, Vector.mem_toList_iff, Vector.mem_iff_getElem]
  exact ⟨fun ⟨_, ⟨n, hn, rfl⟩, hp⟩ => ⟨⟨n, hn⟩, hp⟩, fun ⟨b, hp⟩ => ⟨_, ⟨b.val, b.isLt, rfl⟩, hp⟩⟩

theorem Head.hasQueued_eq_false_iff (hd : Head) (i : SiteId) :
    hd.hasQueued i = false ↔ ∀ b, (hd.block i b).state ≠ .queued := by
  rw [Head.hasQueued, ← Bool.not_eq_true, Head.any_blocks_iff]
  simp

theorem Block.hasLines_iff (b : Block) : b.hasLines = true ↔ b.rows ≠ [] ∨ b.cols ≠ [] := by
  simp [Block.hasLines]

/-- The verdict order on an enabled site (R58). -/
theorem Head.verdictOf_of_enabled (hd : Head) (i : SiteId) (he : (hd.site i).enabled = true) :
    verdictOf (hd.site i) hd.blocks[i]
      = if (∃ b, (hd.block i b).state = .unrepairable) ∨ (hd.site i).unmapped = true
            ∨ (hd.site i).stopReason = .failLimit ∨ (hd.site i).stopReason = .reject then .unrepairable
        else if (hd.site i).causes ≠ 0 ∨ (hd.site i).stopReason = .manual then .incomplete
        else if ∃ b, (hd.block i b).state ≠ .stopped ∧ ((hd.block i b).rows ≠ [] ∨ (hd.block i b).cols ≠ []) then
          .repaired
        else .pass := by
  simp only [verdictOf, he, Bool.not_true, Bool.false_eq_true, if_false, Bool.or_eq_true, Head.any_blocks_iff,
    Bool.and_eq_true, Block.hasLines_iff, beq_iff_eq, bne_iff_ne, or_assoc]

/-- On a site that is left without a block in QUEUED no block has turned to QUEUED, so that its blocks are as they
were. -/
theorem Head.blocks_queueBlocks_of_none_queued {hd : Head} {i : SiteId}
    (hn : ∀ b, (hd.queueBlocks.block i b).state ≠ .queued) : hd.queueBlocks.blocks[i] = hd.blocks[i] := by
  refine Vector.ext fun n hlt => ?_
  have hb := hn ⟨n, hlt⟩
  have hblock := hd.block_queueBlocks i ⟨n, hlt⟩
  split_ifs at hblock
  · rw [hblock] at hb
    exact absurd rfl hb
  · exact hblock

/-- The head at the end of draining, with the jobs that it makes (R49). -/
def Head.drained (hd : Head) (jobs : List SolveJob) : Head :=
  { hd.queueBlocks.finaliseDrained with
    state := if jobs = [] then .ready else .solving
    events := if jobs = [] then hd.events ||| HeadEvent.segmentDone.bit else hd.events }

theorem Head.drained_frame (hd : Head) (jobs : List SolveJob) :
    hd.drained jobs = { hd with
      state := if jobs = [] then .ready else .solving
      events := if jobs = [] then hd.events ||| HeadEvent.segmentDone.bit else hd.events
      sites := (hd.drained jobs).sites, blocks := (hd.drained jobs).blocks } := rfl

/-- The state of the head before the end of draining does not show in the head after it. -/
theorem Head.drained_set_state (hd : Head) (x : HeadState) (jobs : List SolveJob) :
    ({ hd with state := x } : Head).drained jobs = hd.drained jobs := rfl

theorem Head.block_drained (hd : Head) (jobs : List SolveJob) (i : SiteId) (b : BlockId) :
    (hd.drained jobs).block i b = hd.queueBlocks.block i b := rfl

/-- Site `i` is enabled, not stopped and not final, and is left without a block in QUEUED by the end of draining (R49). -/
def Head.settledByDrain (hd : Head) (jobs : List SolveJob) (i : SiteId) : Prop :=
  (hd.site i).enabled = true ∧ (hd.site i).stopped = false ∧ (hd.site i).verdict.isFinal = false
    ∧ ∀ b, ((hd.drained jobs).block i b).state ≠ .queued

/-- The sites that `Head.finaliseDrained` chooses, less those that are final already. -/
theorem Head.settledByDrain_iff (hd : Head) (jobs : List SolveJob) (i : SiteId) :
    hd.settledByDrain jobs i
      ↔ ((hd.queueBlocks.site i).solvable && !hd.queueBlocks.hasQueued i) = true
        ∧ (hd.queueBlocks.site i).verdict.isFinal = false := by
  have hsite : hd.queueBlocks.site i = hd.site i := rfl
  simp only [Head.settledByDrain, hsite, Head.block_drained, Bool.and_eq_true, Bool.not_eq_true', Site.solvable_iff,
    Head.hasQueued_eq_false_iff]
  tauto

/-- Such a site is made final by the verdict order on its blocks, and nothing else of it changes (R49, R58). -/
theorem Head.site_drained_of_settled {hd : Head} {jobs : List SolveJob} {i : SiteId}
    (hs : hd.settledByDrain jobs i) :
    (hd.drained jobs).site i = { hd.site i with verdict := verdictOf (hd.site i) hd.blocks[i] } := by
  obtain ⟨-, -, -, hnone⟩ := id hs
  rw [← Head.blocks_queueBlocks_of_none_queued hnone]
  exact (Head.site_finalise hd.queueBlocks _ i).trans (if_pos ((hd.settledByDrain_iff jobs i).mp hs))

theorem Head.site_drained_of_not_settled {hd : Head} {jobs : List SolveJob} {i : SiteId}
    (hn : ¬ hd.settledByDrain jobs i) : (hd.drained jobs).site i = hd.site i :=
  (Head.site_finalise hd.queueBlocks _ i).trans (if_neg (mt (hd.settledByDrain_iff jobs i).mpr hn))

/-! ### The jobs (R49, R134) -/

theorem allFin_eq_finRange (n : Nat) : allFin n = List.finRange n := List.ofFn_id n

/-- A job is made for a block exactly when the block turns to QUEUED. -/
theorem State.mem_drainJobs_iff (s : State) (h : HeadId) (i : SiteId) (b : BlockId) :
    ⟨h, i, b, (s.head h).generation⟩ ∈ s.drainJobs h
      ↔ ((s.head h).site i).solvable = true ∧ ((s.head h).block i b).state = .collecting := by
  simp only [State.drainJobs, List.mem_flatMap, mem_allFin, true_and]
  constructor
  · rintro ⟨j, hj⟩
    split_ifs at hj with hs
    · obtain ⟨c, hc, heq⟩ := List.mem_map.mp hj
      cases heq
      exact ⟨hs, by simpa using hc⟩
    · cases hj
  · rintro ⟨hs, hb⟩
    exact ⟨i, by simp [hs, hb]⟩

/-! ### The drain test (R48) -/

/-- The drain condition's clause on fail items, for the items queued and the one being processed (R48). -/
theorem State.itemsLive_iff (s : State) (h : HeadId) : s.itemsLive h = true ↔ s.hasLiveItem h := by
  simp only [State.itemsLive, State.hasLiveItem, Bool.or_eq_true, List.any_eq_true, Bool.and_eq_true, beq_iff_eq]
  refine or_congr Iff.rfl ?_
  cases s.engine <;> simp

theorem State.testDrain_eq_self {s : State} {h : HeadId}
    (hn : (s.head h).state ≠ .draining ∨ (s.head h).tracking ≠ [] ∨ s.hasLiveItem h) : s.testDrain h = s := by
  rcases s.testDrain_cases h with ⟨-, hstate, htrack, hlive⟩ | ⟨he, -⟩
  · rw [← State.itemsLive_iff, hlive] at hn
    simp [hstate, htrack] at hn
  · exact he

theorem State.testDrain_eq_endDraining {s : State} {h : HeadId} (hstate : (s.head h).state = .draining)
    (htrack : (s.head h).tracking = []) (hlive : ¬ s.hasLiveItem h) : s.testDrain h = s.endDraining h := by
  rw [← State.itemsLive_iff, Bool.not_eq_true] at hlive
  exact if_pos ⟨hstate, htrack, hlive⟩

/-! ### The end of draining on the part (R49) -/

theorem State.head_endDraining_self (s : State) (h : HeadId) :
    (s.endDraining h).head h = (s.head h).drained (s.drainJobs h) := by
  simp only [State.endDraining, Head.drained]
  split_ifs with hj
  · simp only [State.head_raise_self, State.head_updHead_self, State.head_set_solveList]
    rfl
  · simp only [State.head_updHead_self, State.head_set_solveList]
    rfl

theorem State.onlyHead_endDraining (s : State) (h : HeadId) : s.onlyHead (s.endDraining h) h := by
  intro k hk
  simp only [State.endDraining]
  split_ifs
  · rw [State.head_raise_ne _ _ hk, State.head_updHead_ne _ _ hk, State.head_set_solveList,
      State.head_updHead_ne _ _ hk]
  · rw [State.head_updHead_ne _ _ hk, State.head_set_solveList, State.head_updHead_ne _ _ hk]

theorem State.solveList_endDraining (s : State) (h : HeadId) :
    (s.endDraining h).solveList = s.solveList ++ s.drainJobs h := by
  simp only [State.endDraining]
  split_ifs <;> simp

theorem State.endDraining_frame (s : State) (h : HeadId) :
    s.endDraining h = { s with
      heads := (s.endDraining h).heads, upstream := (s.endDraining h).upstream
      solveList := (s.endDraining h).solveList } := by
  simp only [State.endDraining]
  split_ifs
  · rw [State.raise_frame]
    rfl
  · rfl

/-- With no job SEGMENT_DONE is raised on the head in READY, and its notice is offered (R49). -/
theorem State.upstream_endDraining (s : State) (h : HeadId) :
    (s.endDraining h).upstream = s.upstream ++
      if s.drainJobs h = [] then s.noticesFor h .segmentDone (s.head h) ((s.endDraining h).head h) 0 else [] := by
  simp only [State.endDraining]
  split_ifs
  · rw [State.upstream_raise, State.head_updHead_self, State.head_set_solveList, State.head_updHead_self]
    rfl
  · simp

/-- `t` differs from `s` on head `h` and on the Solve List as the end of draining of head `h` has it (R49). -/
structure State.DrainsTo (s t : State) (h : HeadId) : Prop where
  onlyHead : s.onlyHead t h
  solveList : t.solveList = s.solveList ++ s.drainJobs h
  head : t.head h = (s.head h).drained (s.drainJobs h)

theorem State.drainsTo_endDraining (s : State) (h : HeadId) : s.DrainsTo (s.endDraining h) h :=
  ⟨s.onlyHead_endDraining h, s.solveList_endDraining h, s.head_endDraining_self h⟩

/-! ### SEGMENT_CLOSE (R47) -/

/-- SEGMENT_CLOSE closes the segment of its head and then makes the reply (R8, R47). -/
theorem exec_segmentClose_of_passes {s : State} {r : Request} {rest : List Request} (hr : s.ready r rest)
    (hp : r.passes .segmentClose s) :
    exec .segmentClose s = .next (((s.take r rest).closeSegment r.head).reply .done .empty) :=
  congrArg Host.Outcome.next (State.execute_passes _ hr hp)

theorem State.reply_of_executing {s : State} {r : Request} (he : s.executing = some r) (st : Status)
    (body : ReplyBody) :
    s.reply st body
      = { s with upstream := s.upstream ++ [.reply ⟨r.id, r.code, st, body⟩], executing := none } := by
  simp [State.reply, he]

@[simp] theorem State.head_answered (s : State) (r : Request) (rest : List Request) (st : Status) (body : ReplyBody)
    (h : HeadId) : (s.answered r rest st body).head h = s.head h := rfl

/-- A head that is closed and not drained waits in DRAINING (R47, R48). -/
theorem State.closeSegment_of_waiting {s : State} {h : HeadId}
    (hn : (s.head h).tracking ≠ [] ∨ s.hasLiveItem h) :
    s.closeSegment h = s.updHead h (fun hd => { hd with state := .draining }) := by
  refine State.testDrain_eq_self (Or.inr ?_)
  simpa [State.hasLiveItem] using hn

theorem State.closeSegment_of_drained {s : State} {h : HeadId} (htrack : (s.head h).tracking = [])
    (hlive : ¬ s.hasLiveItem h) :
    s.closeSegment h = (s.updHead h (fun hd => { hd with state := .draining })).endDraining h := by
  refine State.testDrain_eq_endDraining ?_ ?_ ?_
  · simp
  · simpa using htrack
  · simpa [State.hasLiveItem] using hlive

theorem State.drainJobs_updHead_state (s : State) (h : HeadId) (x : HeadState) :
    (s.updHead h (fun hd => { hd with state := x })).drainJobs h = s.drainJobs h := by
  simp [State.drainJobs]

/-- The state of a head before the end of draining does not show after it. -/
theorem State.DrainsTo.of_updHead_state {s t : State} {h : HeadId} {x : HeadState}
    (hd : (s.updHead h (fun hd => { hd with state := x })).DrainsTo t h) : s.DrainsTo t h where
  onlyHead k hk := (hd.onlyHead k hk).trans (State.head_updHead_ne _ _ hk)
  solveList := by simpa only [State.drainJobs_updHead_state, State.updHead_solveList] using hd.solveList
  head := by
    simpa only [State.drainJobs_updHead_state, State.head_updHead_self, Head.drained_set_state] using hd.head

/-- A closing that leaves the head waiting in DRAINING is answered, and nothing else changes. -/
theorem exec_segmentClose_of_waiting {s : State} {r : Request} {rest : List Request} (hr : s.ready r rest)
    (hp : r.passes .segmentClose s) (hn : (s.head r.head).tracking ≠ [] ∨ s.hasLiveItem r.head) :
    exec .segmentClose s
      = .next ((s.updHead r.head (fun hd => { hd with state := .draining })).answered r rest .done .empty) := by
  have hclose : (s.take r rest).closeSegment r.head
      = (s.updHead r.head (fun hd => { hd with state := .draining })).take r rest :=
    State.closeSegment_of_waiting (s := s.take r rest) hn
  rw [exec_segmentClose_of_passes hr hp, hclose, State.reply_take]
  exact hr

/-- A closing of a head that is drained already ends draining within the command, and the reply comes after the notice of
SEGMENT_DONE. -/
theorem exec_segmentClose_of_drained {s : State} {r : Request} {rest : List Request} (hr : s.ready r rest)
    (hp : r.passes .segmentClose s) (htrack : (s.head r.head).tracking = []) (hlive : ¬ s.hasLiveItem r.head) :
    ∃ t, exec .segmentClose s = .next t ∧ s.DrainsTo t r.head
      ∧ t = { s with heads := t.heads, requests := rest, upstream := t.upstream, solveList := t.solveList }
      ∧ t.upstream = s.upstream
        ++ (if s.drainJobs r.head = [] then
            s.noticesFor r.head .segmentDone (s.head r.head) (t.head r.head) 1 else [])
        ++ [.reply ⟨r.id, r.code, .done, .empty⟩] := by
  obtain ⟨c, hc⟩ : ∃ c, c = (s.updHead r.head (fun hd => { hd with state := .draining })).take r rest := ⟨_, rfl⟩
  have hclose : (s.take r rest).closeSegment r.head = c.endDraining r.head :=
    hc ▸ State.closeSegment_of_drained (s := s.take r rest) htrack hlive
  have hdrains : s.DrainsTo (c.endDraining r.head) r.head := by
    have hto := c.drainsTo_endDraining r.head
    rw [hc] at hto ⊢
    exact State.DrainsTo.of_updHead_state ⟨hto.onlyHead, hto.solveList, hto.head⟩
  have hframe := c.endDraining_frame r.head
  have hexecuting : (c.endDraining r.head).executing = some r := by rw [hframe, hc]; rfl
  have hnotice (after : Head) : c.noticesFor r.head .segmentDone (c.head r.head) after 0
      = s.noticesFor r.head .segmentDone (s.head r.head) after 1 := by
    rw [← State.noticesFor_take hr, hc, State.head_take, State.head_updHead_self]
    rfl
  have hup := c.upstream_endDraining r.head
  have hjobs : c.drainJobs r.head = s.drainJobs r.head := hc ▸ s.drainJobs_updHead_state r.head .draining
  refine ⟨_, exec_segmentClose_of_passes hr hp, ?_⟩
  rw [hclose, State.reply_of_executing hexecuting]
  refine ⟨⟨hdrains.onlyHead, hdrains.solveList, hdrains.head⟩, ?_, ?_⟩
  · rw [hframe, hc]
    simp only [State.take, State.updHead, ← State.ready_executing hr]
  · rw [hup, hnotice, hjobs, hc]
    rfl

/-- Settles O25: a case split on the drain condition of R48; both ways to the end of draining are
`State.DrainsTo`. -/
theorem segmentCloseDrainsTheHead : Obligations.SegmentCloseDrainsTheHead := by
  intro s h hd live jobs drained
  have hjobs : s.drainJobs h = jobs := by
    simp only [State.drainJobs, allFin_eq_finRange, Site.solvable_iff]
    rfl
  have hdrained (t : State) (ht : s.DrainsTo t h) : drained t := by
    have hhead : t.head h = hd.drained jobs := hjobs ▸ ht.head
    refine ⟨ht.onlyHead, hjobs ▸ ht.solveList, ?_, fun i b => ?_, fun i => ?_⟩
    · rw [hhead]
      exact hd.drained_frame jobs
    · rw [hhead, Head.block_drained, Head.block_queueBlocks, ← hjobs]
      simp only [hd, State.mem_drainJobs_iff]
    · rw [hhead]
      refine ⟨Head.site_drained_of_not_settled, fun hs => ?_⟩
      obtain ⟨henabled, -⟩ := id hs
      rw [Head.site_drained_of_settled hs]
      exact ⟨rfl, hd.verdictOf_of_enabled i henabled⟩
  refine ⟨fun r rest hr hp hh => ?_, State.testDrain_eq_self, fun hstate htrack hlive => ?_⟩
  · subst hh
    by_cases hw : hd.tracking ≠ [] ∨ live
    · refine ⟨_, exec_segmentClose_of_waiting hr hp hw, fun k hk => ?_, rfl, rfl, fun _ => ⟨rfl, ?_⟩,
        fun htrack hlive => absurd hw (by simp [htrack, hlive])⟩
      · rw [State.head_answered, State.head_updHead_ne _ _ hk]
      · rw [State.head_answered, State.head_updHead_self]
    · obtain ⟨htrack, hlive⟩ := not_or.mp hw
      obtain ⟨t, hexec, hto, hframe, hup⟩ := exec_segmentClose_of_drained hr hp (not_not.mp htrack) hlive
      rw [hjobs] at hup
      exact ⟨t, hexec, hto.onlyHead, by rw [hframe], by rw [hframe],
        fun hn => absurd hn hw, fun _ _ => ⟨hdrained t hto, hframe, hup⟩⟩
  · have hup := s.upstream_endDraining h
    rw [hjobs] at hup
    rw [State.testDrain_eq_endDraining hstate htrack hlive]
    exact ⟨hdrained _ (s.drainsTo_endDraining h), s.endDraining_frame h, hup⟩

end Sys2Proof.Machine
end

section
/-! Fail address reconstruction (chapter 6): the ranges of each step from a burst offset to the fails of an entry. -/

namespace Sys2Proof.Machine

/-! ### Offset expansion (R105, R106) -/

theorem expand_colFast (g : Geometry) (baseRow baseCol k : Nat) :
    expand g .colFast baseRow baseCol k
      = ((baseRow + (baseCol + k) / 2 ^ g.cb) % 2 ^ g.rb, (baseCol + k) % 2 ^ g.cb) := rfl

theorem expand_rowFast (g : Geometry) (baseRow baseCol k : Nat) :
    expand g .rowFast baseRow baseCol k
      = ((baseRow + k) % 2 ^ g.rb, (baseCol + (baseRow + k) / 2 ^ g.rb) % 2 ^ g.cb) := rfl

theorem expand_fst_lt (g : Geometry) (order : Order) (baseRow baseCol k : Nat) :
    (expand g order baseRow baseCol k).1 < 2 ^ g.rb := by
  cases order with
  | colFast => exact Nat.mod_lt _ (Nat.two_pow_pos _)
  | rowFast => exact Nat.mod_lt _ (Nat.two_pow_pos _)

theorem expand_snd_lt (g : Geometry) (order : Order) (baseRow baseCol k : Nat) :
    (expand g order baseRow baseCol k).2 < 2 ^ g.cb := by
  cases order with
  | colFast => exact Nat.mod_lt _ (Nat.two_pow_pos _)
  | rowFast => exact Nat.mod_lt _ (Nat.two_pow_pos _)

/-- With a fast axis of 8 or more bits a burst crosses at most one boundary of it (R105). -/
theorem div_two_pow_le_one {bits t : Nat} (hbits : 8 ≤ bits) (ht : t ≤ 2 ^ bits + 254) : t / 2 ^ bits ≤ 1 := by
  have hwide : 2 ^ 8 ≤ 2 ^ bits := Nat.pow_le_pow_right Nat.two_pos hbits
  exact Nat.le_of_lt_succ (Nat.div_lt_of_lt_mul (by omega))

/-! ### The logical word (R107) -/

theorem mul_two_pow_add_lt {r c rb cb : Nat} (hr : r < 2 ^ rb) (hc : c < 2 ^ cb) : r * 2 ^ cb + c < 2 ^ (rb + cb) :=
  calc r * 2 ^ cb + c < (r + 1) * 2 ^ cb := by rw [Nat.succ_mul]; omega
    _ ≤ 2 ^ rb * 2 ^ cb := Nat.mul_le_mul_right _ hr
    _ = 2 ^ (rb + cb) := (Nat.pow_add 2 rb cb).symm

theorem logicalWord_toNat {g : Geometry} {rc : Nat × Nat} (hword : rc.1 * 2 ^ g.cb + rc.2 < 2 ^ 28) :
    (logicalWord g rc).toNat = rc.1 * 2 ^ g.cb + rc.2 := by
  rw [logicalWord, BitVec.toNat_ofNat, Nat.mod_eq_of_lt hword]

/-- The logical word L of the vector at offset `k` of a tracking entry (R107). -/
def TrackEntry.wordAt (te : TrackEntry) (g : Geometry) (k : Nat) : BitVec 28 :=
  logicalWord g (expand g te.order te.baseRow te.baseCol k)

/-- The vector index of the vector at offset `k` of a tracking entry (R107). -/
def TrackEntry.indexAt (te : TrackEntry) (k : Nat) : BitVec 32 := te.startIndex + BitVec.ofNat 32 k

theorem TrackEntry.indexAt_toNat (te : TrackEntry) (k : Nat) :
    (te.indexAt k).toNat = (te.startIndex.toNat + k) % 2 ^ 32 := by
  rw [TrackEntry.indexAt, BitVec.toNat_add, BitVec.toNat_ofNat, Nat.add_mod_mod]

/-! ### The window match (R108) -/

theorem Window.matchesWord_iff (w : Window) (l : BitVec 28) :
    w.matchesWord l = true ↔ w.enabled = true ∧ (l &&& w.matchMask) = (w.matchBase &&& w.matchMask) := by
  simp [Window.matchesWord]

theorem windowOf_eq_none {ws : Vector Window 8} {l : BitVec 28}
    (hnone : ∀ i : Fin 8, ¬ ws[i].matchesWord l = true) : windowOf ws l = none := by
  refine List.find?_eq_none.mpr fun w hw => ?_
  obtain ⟨i, hi, rfl⟩ := Vector.mem_iff_getElem.mp (Vector.mem_toList_iff.mp hw)
  exact hnone ⟨i, hi⟩

/-- The first window that matches is the fail's window: those after it are not consulted (R108). -/
theorem windowOf_eq_some {ws : Vector Window 8} {l : BitVec 28} {i : Fin 8} (hi : ws[i].matchesWord l = true)
    (hfirst : ∀ j < i, ¬ ws[j].matchesWord l = true) : windowOf ws l = some ws[i] := by
  refine List.find?_eq_some_iff_getElem.mpr ⟨hi, i, by simp, by simp, fun j hj => ?_⟩
  simpa using hfirst ⟨j, by omega⟩ hj

/-! ### The physical word and its split (R109, R110, R111) -/

theorem physicalWord_lt (g : Geometry) (w : Window) (l : BitVec 28) : physicalWord g w l < 2 ^ (g.rb + g.cb) :=
  Nat.mod_lt _ (Nat.two_pow_pos _)

theorem physicalRow_lt {g : Geometry} {p : Nat} (hp : p < 2 ^ (g.rb + g.cb)) : physicalRow g p < 2 ^ g.rb :=
  Nat.div_lt_of_lt_mul (by rwa [← Nat.pow_add, Nat.add_comm])

theorem physicalRow_div_lt {g : Geometry} {p : Nat} (hp : p < 2 ^ (g.rb + g.cb)) (hbb : g.bb ≤ g.rb) :
    physicalRow g p / 2 ^ (g.rb - g.bb) < 2 ^ g.bb :=
  Nat.div_lt_of_lt_mul (by rw [← Nat.pow_add, Nat.sub_add_cancel hbb]; exact physicalRow_lt hp)

/-- The 16 Block Records of a head hold every block number of a part with 4 or fewer block bits (R110). -/
theorem blockOf_val {g : Geometry} {p : Nat} (hp : p < 2 ^ (g.rb + g.cb)) (hbb : g.bb ≤ g.rb) (hbb4 : g.bb ≤ 4) :
    (blockOf g p).val = physicalRow g p / 2 ^ (g.rb - g.bb) := by
  have hblocks : 2 ^ g.bb ≤ 2 ^ 4 := Nat.pow_le_pow_right Nat.two_pos hbb4
  exact Nat.mod_eq_of_lt ((physicalRow_div_lt hp hbb).trans_le hblocks)

theorem rowInBlock_lt (g : Geometry) (p : Nat) : rowInBlock g p < 2 ^ (g.rb - g.bb) :=
  Nat.mod_lt _ (Nat.two_pow_pos _)

theorem columnLine_lt {g : Geometry} {i : Nat} (p : Nat) (hi : i < g.ioc) : columnLine g p i < 2 ^ g.cb * g.ioc :=
  have hcol : physicalCol g p < 2 ^ g.cb := Nat.mod_lt _ (Nat.two_pow_pos _)
  calc physicalCol g p * g.ioc + i < (physicalCol g p + 1) * g.ioc := by rw [Nat.succ_mul]; omega
    _ ≤ 2 ^ g.cb * g.ioc := Nat.mul_le_mul_right _ hcol

/-- The bits of a mask from IOC up make no fail (R111). -/
theorem failBits_eq_filter_range {g : Geometry} (hioc : g.ioc ≤ 16) (ioMask : BitVec 16) :
    failBits g ioMask = (List.range g.ioc).filter (fun i => ioMask.getLsbD i) := by
  have hsplit : List.range 16 = List.range g.ioc ++ (List.range (16 - g.ioc)).map (g.ioc + ·) := by
    rw [← List.range_add, Nat.add_sub_cancel' hioc]
  have hhigh : ((List.range (16 - g.ioc)).map (g.ioc + ·)).filter
      (fun i => ioMask.getLsbD i && decide (i < g.ioc)) = [] := by
    simp [List.filter_eq_nil_iff]
  rw [failBits, hsplit, List.filter_append, hhigh, List.append_nil]
  refine List.filter_congr fun i hi => ?_
  rw [decide_eq_true (List.mem_range.mp hi), Bool.and_true]

theorem lt_ioc_of_mem_failBits {g : Geometry} {ioMask : BitVec 16} {i : Nat} (hi : i ∈ failBits g ioMask) :
    i < g.ioc := by
  simp only [failBits, List.mem_filter, Bool.and_eq_true, decide_eq_true_eq] at hi
  exact hi.2.2

/-! ### The fails of an entry (R104, R112, R113) -/

section
variable {hd : Head} {te : TrackEntry} {e : FailEntry}

theorem failsOf_of_windowOf_none (hnone : windowOf hd.windows (te.wordAt hd.geometry e.offset.toNat) = none) :
    failsOf hd te e = (failBits hd.geometry e.ioMask).map
      (fun _ => Fail.unmapped (te.wordAt hd.geometry e.offset.toNat) (te.indexAt e.offset.toNat)) := by
  rw [TrackEntry.wordAt] at hnone
  simp only [failsOf, hnone, TrackEntry.wordAt, TrackEntry.indexAt]

theorem failsOf_of_windowOf_some {w : Window}
    (hsome : windowOf hd.windows (te.wordAt hd.geometry e.offset.toNat) = some w) :
    failsOf hd te e = (failBits hd.geometry e.ioMask).map
      (fun i =>
        let p := physicalWord hd.geometry w (te.wordAt hd.geometry e.offset.toNat)
        Fail.mapped (blockOf hd.geometry p) (rowInBlock hd.geometry p) (columnLine hd.geometry p i)
          (te.indexAt e.offset.toNat)) := by
  rw [TrackEntry.wordAt] at hsome
  simp only [failsOf, hsome, TrackEntry.wordAt, TrackEntry.indexAt]

theorem length_failsOf (hd : Head) (te : TrackEntry) (e : FailEntry) :
    (failsOf hd te e).length = (failBits hd.geometry e.ioMask).length := by
  cases hw : windowOf hd.windows (te.wordAt hd.geometry e.offset.toNat) with
  | none => rw [failsOf_of_windowOf_none hw, List.length_map]
  | some w => rw [failsOf_of_windowOf_some hw, List.length_map]

/-- One window test decides for the whole entry (R108). -/
theorem failsOf_all_mapped_or_all_unmapped (hd : Head) (te : TrackEntry) (e : FailEntry) :
    (∀ f ∈ failsOf hd te e, f.isMapped = true) ∨ ∀ f ∈ failsOf hd te e, f.isMapped = false := by
  cases hw : windowOf hd.windows (te.wordAt hd.geometry e.offset.toNat) with
  | none => exact Or.inr (by rw [failsOf_of_windowOf_none hw]; simp [Fail.isMapped])
  | some w => exact Or.inl (by rw [failsOf_of_windowOf_some hw]; simp [Fail.isMapped])

/-- A mapped fail is the split of one physical word at one IO bit below IOC (R112). -/
theorem split_of_mapped_mem_failsOf {b : BlockId} {row col : Nat} {v : BitVec 32}
    (hf : Fail.mapped b row col v ∈ failsOf hd te e) :
    ∃ p i, p < 2 ^ (hd.geometry.rb + hd.geometry.cb) ∧ i < hd.geometry.ioc ∧ b = blockOf hd.geometry p
      ∧ row = rowInBlock hd.geometry p ∧ col = columnLine hd.geometry p i ∧ v = te.indexAt e.offset.toNat := by
  cases hw : windowOf hd.windows (te.wordAt hd.geometry e.offset.toNat) with
  | none => simp [failsOf_of_windowOf_none hw] at hf
  | some w =>
    rw [failsOf_of_windowOf_some hw] at hf
    obtain ⟨i, hi, hfail⟩ := List.mem_map.mp hf
    obtain ⟨rfl, rfl, rfl, rfl⟩ := Fail.mapped.inj hfail
    exact ⟨_, i, physicalWord_lt _ _ _, lt_ioc_of_mem_failBits hi, rfl, rfl, rfl, rfl⟩

/-- An unmapped fail carries the entry's logical word and vector index (R113). -/
theorem eq_of_unmapped_mem_failsOf {word : BitVec 28} {v : BitVec 32}
    (hf : Fail.unmapped word v ∈ failsOf hd te e) :
    word = te.wordAt hd.geometry e.offset.toNat ∧ v = te.indexAt e.offset.toNat := by
  cases hw : windowOf hd.windows (te.wordAt hd.geometry e.offset.toNat) with
  | none =>
    rw [failsOf_of_windowOf_none hw] at hf
    obtain ⟨i, -, hfail⟩ := List.mem_map.mp hf
    obtain ⟨rfl, rfl⟩ := Fail.unmapped.inj hfail
    exact ⟨rfl, rfl⟩
  | some w => simp [failsOf_of_windowOf_some hw] at hf

end

/-- Settles O50: the expansion and the split bound each coordinate, and a case split on the first matching window gives
the fails. -/
theorem failAddressesStayInRange : Obligations.FailAddressesStayInRange := by
  intro hd te e g k at_ l index bits hits hgeometry _ hcol
  obtain ⟨-, hrb, -, hcb, hbb4, hbb, -, hioc⟩ := hgeometry
  have hk : k < 256 := e.offset.isLt
  have hword : at_.1 * 2 ^ g.cb + at_.2 < 2 ^ (g.rb + g.cb) :=
    mul_two_pow_add_lt (expand_fst_lt _ _ _ _ _) (expand_snd_lt _ _ _ _ _)
  have hwidth : 2 ^ (g.rb + g.cb) ≤ 2 ^ 28 := Nat.pow_le_pow_right Nat.two_pos (by omega)
  have hbits : failBits g e.ioMask = bits := failBits_eq_filter_range hioc e.ioMask
  have hmatch (i : Fin 8) : hd.windows[i].matchesWord l = true ↔ hits i := Window.matchesWord_iff _ l
  refine ⟨fun horder => ?_, fun horder => ?_, logicalWord_toNat (hword.trans_le hwidth), hword, hwidth,
    fun hnone => ?_, fun i hi hfirst => ?_, ?_, failsOf_all_mapped_or_all_unmapped hd te e,
    fun b row col v hf => ?_, fun word v hf => ?_⟩
  · have hat : at_ = ((te.baseRow + (te.baseCol + k) / 2 ^ g.cb) % 2 ^ g.rb, (te.baseCol + k) % 2 ^ g.cb) := by
      simp only [at_, horder, expand_colFast]
    have ht : te.baseCol + k ≤ 2 ^ g.cb + 254 := by omega
    refine ⟨hat, ht, fun hwide => div_two_pow_le_one hwide ht, fun hnarrow hbase hoffset => ?_⟩
    simp [hat, hnarrow, hbase, hoffset]
  · simp only [at_, horder, expand_rowFast]
  · rw [← hbits]
    exact failsOf_of_windowOf_none (windowOf_eq_none fun i => mt (hmatch i).mp (hnone i))
  · have hwindow := windowOf_eq_some ((hmatch i).mpr hi) fun j hj => mt (hmatch j).mp (hfirst j hj)
    have hp := physicalWord_lt g hd.windows[i] l
    refine ⟨hp, physicalRow_div_lt hp hbb.le, fun b hb => ?_⟩
    have hblock : b = blockOf g (physicalWord g hd.windows[i] l) :=
      Fin.ext (hb.trans (blockOf_val hp hbb.le hbb4).symm)
    rw [← hbits, hblock]
    exact failsOf_of_windowOf_some hwindow
  · rw [length_failsOf, List.countP_eq_length_filter]
    exact congrArg List.length hbits
  · obtain ⟨p, i, hp, hi, rfl, rfl, rfl, rfl⟩ := split_of_mapped_mem_failsOf hf
    refine ⟨?_, rowInBlock_lt g p, columnLine_lt p hi, te.indexAt_toNat k⟩
    rw [blockOf_val hp hbb.le hbb4]
    exact physicalRow_div_lt hp hbb.le
  · obtain ⟨rfl, rfl⟩ := eq_of_unmapped_mem_failsOf hf
    exact ⟨rfl, te.indexAt_toNat k⟩

end Sys2Proof.Machine
end

section
/-! What the commands do to the state, as a relation of moves: each command is a sequence of moves, so that what every
move keeps every command keeps. -/

namespace Sys2Proof.Machine

/-! ### Heads of a state -/

theorem State.heads_ext {s t : State} (h : ∀ k, t.head k = s.head k) : t.heads = s.heads :=
  Vector.ext fun n hn => h ⟨n, hn⟩

theorem State.updHead_eq_self (s : State) {h : HeadId} {f : Head → Head} (hf : f (s.head h) = s.head h) :
    s.updHead h f = s := by
  have hheads : (s.updHead h f).heads = s.heads := State.heads_ext fun k => by
    by_cases hk : k = h
    · subst hk; rw [State.head_updHead_self, hf]
    · exact State.head_updHead_ne s f hk
  cases s
  simp_all [State.updHead]

theorem State.updHead_updHead (s : State) (h : HeadId) (f g : Head → Head) :
    (s.updHead h f).updHead h g = s.updHead h (fun hd => g (f hd)) := by
  have hheads : ((s.updHead h f).updHead h g).heads = (s.updHead h (fun hd => g (f hd))).heads :=
    State.heads_ext fun k => by
      by_cases hk : k = h
      · subst hk; simp
      · simp [State.head_updHead_ne _ _ hk]
  simpa [State.updHead] using hheads

theorem State.updHead_congr (s : State) {h : HeadId} {f g : Head → Head} (hf : f (s.head h) = g (s.head h)) :
    s.updHead h f = s.updHead h g := by simp [State.updHead, hf]

theorem State.onlyHead_updHead (s : State) (h : HeadId) (f : Head → Head) : s.onlyHead (s.updHead h f) h :=
  fun _ hk => State.head_updHead_ne s f hk

theorem State.onlyHead.trans {s t u : State} {h : HeadId} (h1 : s.onlyHead t h) (h2 : t.onlyHead u h) :
    s.onlyHead u h := fun k hk => (h2 k hk).trans (h1 k hk)

theorem State.onlyHead_raise (s : State) (h : HeadId) (e : HeadEvent) : s.onlyHead (s.raise h e) h :=
  fun _ hk => State.head_raise_ne s e hk

/-! ### The link between the commands of an execution -/

/-- The Pattern Link's invariant as it stands within a command, when a request may be under execution: its reply has a
slot (R8). -/
structure State.LinkMid (s : State) : Prop where
  requests : s.requests.length ≤ Config.requestQueueSize
  slots : s.upstream.length + s.reservations.length + (if s.executing.isSome then 1 else 0) ≤ Config.upstreamQueueSize
  reservations : s.reservations.Nodup
  failureRun : s.failureRun < Config.failureRunLimit
  crcDiscards : s.crcDiscards ≤ Config.countTop
  requestDrops : s.requestDrops ≤ Config.countTop
  outOfSync : s.link = .outOfSync → s.requests = [] ∧ s.upstream = [] ∧ s.reservations = [] ∧ s.failureRun = 0
    ∧ s.expected = none ∧ s.executing = none

theorem State.linkInv_iff (s : State) : s.LinkInv ↔ s.LinkMid ∧ s.executing = none := by
  constructor
  · rintro ⟨he, h1, h2, h3, h4, h5, h6, h7⟩
    exact ⟨⟨h1, by simpa [he] using h2, h3, h4, h5, h6, by simpa [he] using h7⟩, he⟩
  · rintro ⟨⟨h1, h2, h3, h4, h5, h6, h7⟩, he⟩
    exact ⟨he, h1, by simpa [he] using h2, h3, h4, h5, h6, by simpa [he] using h7⟩

/-! ### What may happen to one head -/

/-- A tracking queue whose entries have kept their tags and stay answered or unanswered, with deadlines that are paused
exactly while the lane is held if they were (R82). -/
def Retimed (held : Bool) (q q' : List TrackEntry) : Prop :=
  List.Forall₂ (fun e e' => e'.tag = e.tag ∧ (e'.deadline = .answered ↔ e.deadline = .answered)
    ∧ (held = true → (∀ n, e.deadline ≠ .running n) → ∀ n, e'.deadline ≠ .running n)
    ∧ (held = false → (∀ n, e.deadline ≠ .paused n) → ∀ n, e'.deadline ≠ .paused n)) q q'

theorem Retimed.refl (held : Bool) (q : List TrackEntry) : Retimed held q q :=
  List.forall₂_same.mpr fun _ _ => ⟨rfl, Iff.rfl, fun _ h => h, fun _ h => h⟩

/-- A change of a head that leaves its life, its blocks, its lane buffer and its tracking queue as they are (but for
the course of timers), and keeps the sizes of its queues and counts and its final verdicts. -/
structure Head.Tweak (hd hd' : Head) : Prop where
  state : hd'.state = hd.state := by rfl
  phase : hd'.phase = hd.phase := by rfl
  generation : hd'.generation = hd.generation := by rfl
  supplyGood : hd'.supplyGood = hd.supplyGood := by rfl
  laneSignal : hd'.laneSignal = hd.laneSignal := by rfl
  fenceTimer : hd'.fenceTimer.isSome = hd.fenceTimer.isSome := by rfl
  slot : hd'.slot.map (fun a => (a.origin, a.replyWanted)) = hd.slot.map (fun a => (a.origin, a.replyWanted)) := by rfl
  laneBuffer : hd'.laneBuffer = hd.laneBuffer := by rfl
  reception : hd'.reception = hd.reception := by rfl
  laneHeld : hd'.laneHeld = hd.laneHeld := by rfl
  tracking : Retimed hd.laneHeld hd.tracking hd'.tracking := by exact Retimed.refl _ _
  tagCounter : hd'.tagCounter = hd.tagCounter := by rfl
  geometry : hd'.geometry = hd.geometry := by rfl
  blocks : hd'.blocks = hd.blocks := by rfl
  sendQueue : hd.sendQueue.length ≤ Config.sendQueueSize → hd'.sendQueue.length ≤ Config.sendQueueSize := by exact id
  log : hd.log.length ≤ Config.failLogSize → hd'.log.length ≤ Config.failLogSize := by exact id
  strays : hd.strays ≤ Config.countTop → hd'.strays ≤ Config.countTop := by exact id
  skipped : hd.skipped ≤ Config.countTop → hd'.skipped ≤ Config.countTop := by exact id
  rawFails : ∀ i, (hd.site i).rawFails ≤ Config.countTop → (hd'.site i).rawFails ≤ Config.countTop := by
    exact fun _ h => h
  verdicts : ∀ i, (hd.site i).verdict.isFinal = true → (hd'.site i).verdict = (hd.site i).verdict := by
    exact fun _ _ => rfl

theorem Head.Tweak.refl (hd : Head) : hd.Tweak hd := {}

/-- What a command may do to one head by itself, in one piece. -/
inductive Head.Step (hd : Head) : Head → Prop where
  | tweak {hd' : Head} (h : hd.Tweak hd') : Head.Step hd hd'
  | place (b : Burst) (hstate : hd.state = .testing) (hsend : hd.sendQueue.length < Config.sendQueueSize)
      (htrack : hd.tracking.length < Config.trackingQueueSize) : Head.Step hd (hd.place b true)
  | expire : Head.Step hd { hd with tracking := dropOldestUnanswered hd.tracking }
  | unmatch (tag : Byte) (m : Matched) (hm : matchTag tag hd.tracking = some m) :
      Head.Step hd { hd with tracking := m.answered ++ m.later }
  | goTo (x : HeadState) (hold : hd.state ≠ .offline ∧ hd.state ≠ .training ∧ hd.state ≠ .fenced ∧ hd.state ≠ .solving)
      (hnew : x ≠ .offline ∧ x ≠ .training ∧ x ≠ .fenced ∧ x ≠ .solving)
      (htrack : x.collecting = false → hd.state.collecting = false) : Head.Step hd { hd with state := x }
  | stop (i : SiteId) (why : StopReason) : Head.Step hd (hd.stopSite i why)
  | process (i : SiteId) (b : BlockId) (it : FailItem) (hb : (hd.block i b).state = .collecting) :
      Head.Step hd (hd.setBlock i b (processItem hd.geometry (hd.block i b) it).1)
  | geometry (g : Geometry) (hsr : g.sr ≤ 4) (hsc : g.sc ≤ 4) : Head.Step hd (hd.writeGeometry g)
  | start (hstate : hd.state = .offline) (hsignal : hd.laneSignal = true) : Head.Step hd hd.start
  | enterProfile (measured : Nat) (i : Fin 8) (window : Nat) (hhunt : hd.hunting = true) :
      Head.Step hd (hd.enterProfile measured i window)
  | failTraining (why : Reason) (htraining : hd.hunting = true ∨ ∃ a, hd.slot = some a ∧ a.origin = .profileRead) :
      Head.Step hd { hd with
        state := .offline, phase := none, reason := why, fenceTimer := none, probeWaiting := false
        roundTripTimer := none, slot := none }
  | acceptProfile (p : Profile) (hslot : ∃ a, hd.slot = some a ∧ a.origin = .profileRead) :
      Head.Step hd (hd.acceptProfile p)
  | supplyFall : Head.Step hd { hd with
        supplyGood := false, fenceTimer := if hd.state.monitored then some hd.setup.fenceDelay else hd.fenceTimer }
  | supplyRise : Head.Step hd { hd with supplyGood := true, fenceTimer := none }
  | signal (x : Bool) (hx : x = false → hd.state.monitored = false) : Head.Step hd { hd with laneSignal := x }

/-- What a command may do to the lane buffer of one head, in one piece. -/
inductive Head.BufferStep (hd : Head) : Head → Prop where
  | reception (x : Option Reception) : Head.BufferStep hd { hd with reception := x }
  | accept (tag : Byte) (m : Matched) (secs : List RecordSection) (hm : matchTag tag hd.tracking = some m) :
      Head.BufferStep hd { hd with
        tracking := m.answered ++ { m.entry with deadline := .answered } :: m.later
        laneBuffer := hd.laneBuffer ++ [⟨tag, secs⟩] }
  | complete (hbuf : hd.laneBuffer ≠ []) : Head.BufferStep hd { hd with
        laneBuffer := hd.laneBuffer.tail, tracking := dropFirstAnswered hd.tracking }
  | rebuffer (l : List BufferedRecord) (n : Nat) (hl : l.map BufferedRecord.tag = hd.laneBuffer.map BufferedRecord.tag)
      (hn : hd.strays ≤ Config.countTop → n ≤ Config.countTop) :
      Head.BufferStep hd { hd with laneBuffer := l, strays := n }
  | hold : Head.BufferStep hd hd.refreshHold

/-! ### What may happen to the part -/

/-- The state in which head `h` has ended draining, before SEGMENT_DONE is raised (R49). -/
def State.drainedState (s : State) (h : HeadId) : State :=
  { s.updHead h (fun hd => { hd.queueBlocks.finaliseDrained with
      state := if s.drainJobs h = [] then .ready else .solving }) with
    solveList := s.solveList ++ s.drainJobs h }

/-- What an event of head `h` may do, in one piece. -/
inductive State.LaneMove (h : HeadId) (s : State) : State → Prop where
  | head (f : Head → Head) (hf : (s.head h).Step (f (s.head h))) : State.LaneMove h s (s.updHead h f)
  | notice (n : Notice) (hlink : s.link = .inSync) (hfree : 2 ≤ s.freeSlots) :
      State.LaneMove h s { s with upstream := s.upstream ++ [.notice n] }
  | free (n : Nat) : State.LaneMove h s { s with freeCount := n }
  | enqueue (it : FailItem) (hhead : it.head = h) (hgen : it.generation = (s.head h).generation)
      (hroom : s.analysis.length < Config.analysisQueueSize) :
      State.LaneMove h s { s with analysis := s.analysis ++ [it] }
  | drain (hstate : (s.head h).state = .draining) (htrack : (s.head h).tracking = [])
      (hitems : s.itemsLive h = false) : State.LaneMove h s (s.drainedState h)
  | endAccess (a : Access) (st : Status) (body : ReplyBody) (hslot : (s.head h).slot = some a)
      (horigin : a.origin ≠ .profileRead) : State.LaneMove h s (s.endAccess h st body)

/-- What an event on the lane of head `h` may do to its lane buffer. -/
inductive State.BufferMove (h : HeadId) (s : State) : State → Prop where
  | mk (f : Head → Head) (hf : (s.head h).BufferStep (f (s.head h))) : State.BufferMove h s (s.updHead h f)

/-- The change of a head before its lane is lost leaves its records and its slot as they are. -/
structure Head.SameRecords (hd hd' : Head) : Prop where
  slot : hd'.slot = hd.slot := by rfl
  geometry : hd'.geometry = hd.geometry := by rfl
  blocks : hd'.blocks = hd.blocks := by rfl
  log : hd'.log = hd.log := by rfl
  strays : hd'.strays = hd.strays := by rfl
  skipped : hd'.skipped = hd.skipped := by rfl
  generation : hd'.generation = hd.generation := by rfl
  rawFails : ∀ i, (hd'.site i).rawFails = (hd.site i).rawFails := by exact fun _ => rfl
  verdicts : ∀ i, (hd'.site i).verdict = (hd.site i).verdict := by exact fun _ => rfl

/-- A closing of head `h` by a fence or a lane loss, before its event is raised (R30, R32). -/
inductive State.Lost (h : HeadId) (s : State) : State → Prop where
  | mk (k f : Head → Head) (c : LossCause) (x : HeadState) (hk : (s.head h).SameRecords (k (s.head h)))
      (hx : x.monitored = false)
      (hf : ∀ hd, f hd = { hd with
        state := x, phase := none, reason := (f hd).reason, reception := (f hd).reception })
      (hreception : ∀ hd, (f hd).reception = hd.reception ∨ (f hd).reception = none) :
      State.Lost h s (((s.updHead h k).close h (some c)).updHead h f)

/-- The commands that can change a lane buffer or the record under reception without emptying the buffer. -/
def Instr.handlesRecords : Instr → Bool
  | .resultRecord _ _ | .failEntryArrival _ | .failEntryAdmit _ | .laneSignalLoss _ => true
  | _ => false

/-- The head on which a job's completion takes effect: the Block Record, the site's verdict, and READY when the job was
the head's last (R50, R138 to R140). -/
def Head.finishJob (hd : Head) (j : SolveJob) (found : Option Solution) (last : Bool) : Head :=
  let settled := (hd.setBlock j.site j.block ((hd.block j.site j.block).complete found)).settleSite j.site
  if last then { settled with state := .ready } else settled

/-- What a command does in one piece. A constructor names the commands that make its move where not every command
does. -/
inductive State.Move (c : Instr) (s : State) : State → Prop where
  | lane {t : State} (h : HeadId) (hc : laneOf c = none ∨ laneOf c = some h) (hm : State.LaneMove h s t) :
      State.Move c s t
  | buffer {t : State} (h : HeadId) (hc : laneOf c = some h) (hr : Instr.handlesRecords c = true)
      (hm : State.BufferMove h s t) : State.Move c s t
  | lost {t : State} (h : HeadId) (hc : c = .headStart ∨ c = .fenceTimerExpiry h ∨ c = .laneSignalLoss h)
      (hm : State.Lost h s t) : State.Move c s t
  | headReset (h : HeadId) (hc : c = .headReset) : State.Move c s ((s.close h none).updHead h Head.headReset)
  | elapse (n : Nat) (hc : laneOf c = none) : State.Move c s (s.elapse n)
  | shared (t : State) (hc : laneOf c = none) (hexec : requestFormOf c = none → t.executing = s.executing)
      (hframe : t = { s with
        link := t.link, failureRun := t.failureRun, expected := t.expected, crcDiscards := t.crcDiscards
        requestDrops := t.requestDrops, requests := t.requests, executing := t.executing, upstream := t.upstream
        linkOut := t.linkOut, markers := t.markers, latency := t.latency, freeCount := t.freeCount })
      (hlink : s.LinkMid → t.LinkMid) : State.Move c s t
  | openSegment (h : HeadId) (hc : c = .segmentOpen) (hstate : (s.head h).state = .ready) :
      State.Move c s ((s.bumpGeneration h).updHead h Head.openSegment)
  | reserve (h : HeadId) (a : Access) (hc : c = .maintAccess) (hexec : s.executing.isSome = true)
      (hlink : s.link = .inSync) (hslot : (s.head h).slot = none)
      (hstate : (s.head h).state ≠ .offline ∧ (s.head h).state ≠ .training ∧ (s.head h).state ≠ .fenced)
      (horigin : a.origin ≠ .profileRead) (hwanted : a.replyWanted = true) :
      State.Move c s ((s.updHead h (fun hd => { hd with slot := some a })).reserve h)
  | takeItem (it : FailItem) (rest : List FailItem) (hc : c = .itemTake) (hq : s.analysis = it :: rest)
      (hgen : it.generation = (s.head it.head).generation) :
      State.Move c s { s with
        analysis := rest, arbiterCount := min (s.arbiterCount + 1) Config.itemsPerJob, engine := .item it false }
  | dropItem (it : FailItem) (rest : List FailItem) (hc : c = .itemTake) (hq : s.analysis = it :: rest) :
      State.Move c s { s with analysis := rest, arbiterCount := min (s.arbiterCount + 1) Config.itemsPerJob }
  | takeJob (j : SolveJob) (rest : List SolveJob) (hc : c = .solveJobTake) (hq : s.solveList = j :: rest) :
      State.Move c s { s with
        solveList := rest, arbiterCount := 0
        engine := .job j (solve (s.head j.head).geometry ((s.head j.head).block j.site j.block)) false }
  | idle (hc : c = .itemCompletion ∨ c = .solveJobCompletion) : State.Move c s { s with engine := .idle }
  | finishJob (j : SolveJob) (found : Option Solution) (last : Bool) (hc : c = .solveJobCompletion)
      (hjob : s.engine = .job j found false) (hgen : j.generation = (s.head j.head).generation)
      (hqueued : ((s.head j.head).block j.site j.block).state = .queued)
      (hlast : last = true ↔ ∀ k ∈ s.solveList, k.head ≠ j.head) :
      State.Move c s { s.updHead j.head (fun hd => hd.finishJob j found last) with engine := .idle }
  | linkLoss (hc : laneOf c = none ∧ requestFormOf c = none) (hlink : s.link = .inSync) : State.Move c s s.linkLoss
  | powerOn (hc : c = .powerOn) : State.Move c s s.poweredOn
  | deviceReset (r : Request) (hc : c = .deviceReset) (hexec : s.executing = some r) :
      State.Move c s (s.deviceReset r)

/-- A sequence of moves of a command. -/
abbrev State.Moves (c : Instr) : State → State → Prop := Relation.ReflTransGen (State.Move c)

end Sys2Proof.Machine
end

section
/-! Each shared operation is a sequence of moves. -/

namespace Sys2Proof.Machine

/-- A sequence of moves of head `h`. -/
abbrev State.LaneMoves (h : HeadId) : State → State → Prop := Relation.ReflTransGen (State.LaneMove h)

/-- A sequence of moves of head `h`, with its lane buffer among them. -/
abbrev State.RecordMoves (h : HeadId) : State → State → Prop :=
  Relation.ReflTransGen (fun s t => State.LaneMove h s t ∨ State.BufferMove h s t)

theorem State.LaneMoves.recordMoves {h : HeadId} {s t : State} (hm : State.LaneMoves h s t) :
    State.RecordMoves h s t := by
  induction hm with
  | refl => exact .refl
  | tail _ hstep ih => exact ih.tail (.inl hstep)

theorem State.LaneMove.tweak (s : State) (h : HeadId) (f : Head → Head) (hf : (s.head h).Tweak (f (s.head h))) :
    State.LaneMoves h s (s.updHead h f) := .single (.head f (.tweak hf))

theorem State.BufferMove.moves {s : State} {h : HeadId} {f : Head → Head} (hf : (s.head h).BufferStep (f (s.head h))) :
    State.RecordMoves h s (s.updHead h f) := .single (.inr (.mk f hf))

/-! ### Events, loss causes and the Fail Log -/

theorem Site.verdict_lose (c : LossCause) (st : Site) : (st.lose c).verdict = st.verdict := by
  unfold Site.lose; split_ifs <;> rfl

theorem Site.rawFails_lose (c : LossCause) (st : Site) : (st.lose c).rawFails = st.rawFails := by
  unfold Site.lose; split_ifs <;> rfl

/-- A change of the Site Records that keeps the raw fails and the final verdicts. -/
theorem Head.tweak_mapSites (hd : Head) {f : SiteId → Site → Site} (hraw : ∀ i st, (f i st).rawFails = st.rawFails)
    (hverdict : ∀ i st, st.verdict.isFinal = true → (f i st).verdict = st.verdict) : hd.Tweak (hd.mapSites f) where
  rawFails i h := by rwa [Head.site_mapSites, hraw]
  verdicts i h := by rw [Head.site_mapSites, hverdict i _ h]

theorem Head.tweak_lose (hd : Head) (c : LossCause) (x : BitVec 16) : hd.Tweak (Head.lose c x hd) := by
  refine hd.tweak_mapSites (fun i st => ?_) (fun i st _ => ?_)
  · split_ifs <;> [exact Site.rawFails_lose c st; rfl]
  · split_ifs <;> [exact Site.verdict_lose c st; rfl]

theorem State.offerNotice_moves (s : State) (h : HeadId) : State.LaneMoves h s (s.offerNotice h) := by
  unfold State.offerNotice
  split_ifs with hn
  · obtain ⟨hlink, hfree⟩ := hn
    exact .single (.notice _ hlink hfree)
  · exact .refl

theorem State.raise_moves (s : State) (h : HeadId) (e : HeadEvent) : State.LaneMoves h s (s.raise h e) := by
  unfold State.raise
  split_ifs
  · exact .refl
  · exact (State.LaneMove.tweak s h _ {}).trans (State.offerNotice_moves _ h)
  · exact State.LaneMove.tweak s h _ {}

theorem State.lose_moves (s : State) (h : HeadId) (c : LossCause) (x : BitVec 16) (e : HeadEvent) :
    State.LaneMoves h s (s.lose h c x e) :=
  (State.LaneMove.tweak s h _ (Head.tweak_lose _ c x)).trans (State.raise_moves _ h e)

theorem State.appendLog_moves (s : State) (h : HeadId) (e : LogEntry) : State.LaneMoves h s (s.appendLog h e) := by
  unfold State.appendLog
  split_ifs with hroom
  · refine State.LaneMove.tweak s h _ { log := fun _ => ?_ }
    simpa using hroom
  · exact (State.LaneMove.tweak s h _ {}).trans (State.raise_moves _ h _)

theorem State.stopSite_moves (s : State) (h : HeadId) (i : SiteId) (why : StopReason) :
    State.LaneMoves h s (s.stopSite h i why) := by
  unfold State.stopSite
  split_ifs
  · exact (Relation.ReflTransGen.single (.head _ (.stop i why))).trans (State.raise_moves _ h _)
  · exact .refl

/-! ### Draining and deadlines -/

/-- The end of draining, in the two pieces of which it is made: the change of the head, and SEGMENT_DONE if it makes no
job. -/
theorem State.endDraining_eq (s : State) (h : HeadId) :
    s.endDraining h = if s.drainJobs h = [] then (s.drainedState h).raise h .segmentDone else s.drainedState h := by
  have hset (x : HeadState) (jobs : List SolveJob) : ({ s.updHead h (fun hd => hd.queueBlocks.finaliseDrained) with
      solveList := s.solveList ++ jobs } : State).updHead h (fun hd => { hd with state := x })
      = { s.updHead h (fun hd => { hd.queueBlocks.finaliseDrained with state := x }) with
        solveList := s.solveList ++ jobs } :=
    congrArg (fun t : State => { t with solveList := s.solveList ++ jobs })
      (State.updHead_updHead s h (fun hd => hd.queueBlocks.finaliseDrained) (fun hd => { hd with state := x }))
  by_cases hj : s.drainJobs h = []
  · simp only [State.endDraining, State.drainedState, hj, if_true]
    exact congrArg (fun t => State.raise t h .segmentDone) (hset .ready [])
  · simp only [State.endDraining, State.drainedState, hj, if_false]
    exact hset .solving _

theorem State.testDrain_moves (s : State) (h : HeadId) : State.LaneMoves h s (s.testDrain h) := by
  rcases s.testDrain_cases h with ⟨heq, hstate, htrack, hitems⟩ | ⟨heq, -⟩
  · rw [heq, State.endDraining_eq]
    have hdrain : State.LaneMoves h s (s.drainedState h) := .single (.drain hstate htrack hitems)
    split_ifs
    · exact hdrain.trans (State.raise_moves _ h _)
    · exact hdrain
  · rw [heq]

theorem State.closeSegment_moves {s : State} {h : HeadId} (hstate : (s.head h).state = .testing) :
    State.LaneMoves h s (s.closeSegment h) := by
  have hgo : (s.head h).Step { s.head h with state := .draining } :=
    .goTo .draining (by simp [hstate]) (by simp) (by simp [HeadState.collecting])
  exact (Relation.ReflTransGen.single (.head _ hgo)).trans (State.testDrain_moves _ h)

theorem State.expireOldest_moves (s : State) (h : HeadId) : State.LaneMoves h s (s.expireOldest h) := by
  unfold State.expireOldest
  split
  · exact .refl
  · exact ((Relation.ReflTransGen.single (.head _ .expire)).trans (State.lose_moves _ h _ _ _)).trans
      (State.testDrain_moves _ h)

theorem State.expireOverdue_moves (n : Nat) (s : State) (h : HeadId) :
    State.LaneMoves h s (State.expireOverdue n s h) := by
  induction n generalizing s with
  | zero => exact .refl
  | succ n ih =>
    unfold State.expireOverdue
    split_ifs
    · exact (State.expireOldest_moves s h).trans (ih _)
    · exact .refl

theorem State.settleDeadlines_moves (s : State) (h : HeadId) : State.LaneMoves h s (s.settleDeadlines h) :=
  State.expireOverdue_moves _ s h

theorem State.settleLane_moves (s : State) (h : HeadId) : State.RecordMoves h s (s.settleLane h) :=
  (State.BufferMove.moves .hold).trans (State.settleDeadlines_moves _ h).recordMoves

/-! ### The intake -/

/-- A count that saturates keeps below its top. -/
theorem satSucc_le (top n : Nat) : satSucc top n ≤ top := Nat.min_le_right _ _

theorem Head.tweak_countFail (hd : Head) (i : SiteId) (f : Fail) : hd.Tweak (hd.countFail i f) where
  rawFails j h := by
    by_cases hj : j = i
    · subst hj
      rw [Head.countFail, Head.site_updSite_self]
      exact satSucc_le _ _
    · rwa [Head.countFail, Head.site_updSite_ne _ _ hj]
  verdicts j _ := by
    by_cases hj : j = i
    · subst hj
      rw [Head.countFail, Head.site_updSite_self]
    · rw [Head.countFail, Head.site_updSite_ne _ _ hj]

theorem State.logUnmapped_moves (s : State) (h : HeadId) (i : SiteId) (flag : Bool) (f : Fail) :
    State.LaneMoves h s (s.logUnmapped h i flag f) := by
  unfold State.logUnmapped
  split
  · exact .refl
  · split_ifs
    · exact State.appendLog_moves s h _
    · exact .refl

theorem State.passFail_moves (s : State) (h : HeadId) (i : SiteId) (flag : Bool) (f : Fail)
    (hroom : f.isMapped = true → s.analysis.length < Config.analysisQueueSize) :
    State.LaneMoves h s (s.passFail h i flag f) := by
  unfold State.passFail
  dsimp only
  split
  · exact State.stopSite_moves s h i _
  · cases f with
    | mapped => exact .single (.enqueue _ rfl rfl (hroom rfl))
    | unmapped =>
      dsimp only
      split_ifs
      · exact State.stopSite_moves s h i _
      · exact .refl

theorem State.logUnmapped_analysis (s : State) (h : HeadId) (i : SiteId) (flag : Bool) (f : Fail) :
    (s.logUnmapped h i flag f).analysis = s.analysis := by
  unfold State.logUnmapped
  split
  · rfl
  · split_ifs <;> simp

theorem State.stopSite_analysis (s : State) (h : HeadId) (i : SiteId) (why : StopReason) :
    (s.stopSite h i why).analysis = s.analysis := by
  unfold State.stopSite
  split_ifs <;> simp

theorem State.passFail_analysis_le (s : State) (h : HeadId) (i : SiteId) (flag : Bool) (f : Fail) :
    (s.passFail h i flag f).analysis.length ≤ s.analysis.length + (if f.isMapped then 1 else 0) := by
  unfold State.passFail
  dsimp only
  split
  · simp [State.stopSite_analysis]
  · cases f with
    | mapped => simp [Fail.isMapped]
    | unmapped =>
      dsimp only
      split_ifs <;> simp [State.stopSite_analysis]

/-- One fail at the gate adds at most one item, and none when it is unmapped. -/
theorem State.gate_analysis_le (s : State) (h : HeadId) (i : SiteId) (flag : Bool) (f : Fail) :
    (State.gate h i flag s f).analysis.length ≤ s.analysis.length + (if f.isMapped then 1 else 0) := by
  unfold State.gate
  split
  · exact Nat.le_add_right _ _
  · simpa [State.logUnmapped_analysis] using
      State.passFail_analysis_le ((s.updHead h (fun hd => hd.countFail i f)).logUnmapped h i flag f) h i flag f

theorem State.gate_moves (s : State) (h : HeadId) (i : SiteId) (flag : Bool) (f : Fail)
    (hroom : f.isMapped = true → s.analysis.length < Config.analysisQueueSize) :
    State.LaneMoves h s (State.gate h i flag s f) := by
  unfold State.gate
  split_ifs
  · exact .refl
  · refine ((State.LaneMove.tweak s h _ (Head.tweak_countFail _ i f)).trans
      (State.logUnmapped_moves _ h i flag f)).trans (State.passFail_moves _ h i flag f ?_)
    simpa [State.logUnmapped_analysis] using hroom

theorem State.gates_moves (h : HeadId) (i : SiteId) (flag : Bool) (fails : List Fail) (s : State)
    (hroom : fails.countP Fail.isMapped ≤ Config.analysisQueueSize - s.analysis.length) :
    State.LaneMoves h s (fails.foldl (State.gate h i flag) s) := by
  induction fails generalizing s with
  | nil => exact .refl
  | cons f fails ih =>
    rw [List.countP_cons] at hroom
    refine (State.gate_moves s h i flag f fun hf => ?_).trans (ih _ ?_)
    · rw [if_pos hf] at hroom
      omega
    · have hle := State.gate_analysis_le s h i flag f
      omega

theorem State.completeRecord_moves {s : State} {h : HeadId} (hbuf : (s.head h).laneBuffer ≠ []) :
    State.RecordMoves h s (s.completeRecord h) :=
  (State.BufferMove.moves (.complete hbuf)).trans (State.testDrain_moves _ h).recordMoves

theorem dropSection_tags (l : List BufferedRecord) :
    (dropSection l).map BufferedRecord.tag = l.map BufferedRecord.tag := by
  cases l <;> rfl

theorem dropEntry_tags (l : List BufferedRecord) :
    (dropEntry l).map BufferedRecord.tag = l.map BufferedRecord.tag := by
  cases l with
  | nil => rfl
  | cons r rest => simp only [dropEntry]; split <;> rfl

theorem State.rebuffer_moves (s : State) (h : HeadId) (f : List BufferedRecord → List BufferedRecord)
    (hf : ∀ l, (f l).map BufferedRecord.tag = l.map BufferedRecord.tag) :
    State.RecordMoves h s (s.updHead h (fun hd => { hd with laneBuffer := f hd.laneBuffer })) :=
  State.BufferMove.moves (.rebuffer _ _ (hf _) id)

theorem State.countStray_moves (s : State) (h : HeadId) :
    State.LaneMoves h s (s.updHead h (fun hd => { hd with strays := satSucc Config.countTop hd.strays })) :=
  State.LaneMove.tweak s h _ { strays := fun _ => satSucc_le _ _ }

theorem State.passEmptySection_moves (s : State) (h : HeadId) (i : SiteId) :
    State.RecordMoves h s (s.passEmptySection h i) := by
  have hdrop := s.rebuffer_moves h dropSection dropSection_tags
  have hfree (t : State) (n : Nat) : State.RecordMoves h t { t with freeCount := n } := .single (.inl (.free n))
  unfold State.passEmptySection
  dsimp only
  split
  · exact hdrop
  · split_ifs
    · exact hdrop
    · exact (hdrop.trans (State.countStray_moves _ h).recordMoves).trans (hfree _ _)
    · exact hdrop.trans (hfree _ _)

theorem State.advance_moves (n : Nat) (s : State) (h : HeadId) : State.RecordMoves h s (State.advance n s h) := by
  induction n generalizing s with
  | zero => exact .refl
  | succ n ih =>
    unfold State.advance
    split
    · exact .refl
    · rename_i hbuf
      split
      · exact (State.completeRecord_moves (by simp [hbuf])).trans (ih _)
      · split
        · exact (State.passEmptySection_moves s h _).trans (ih _)
        · exact .refl

theorem State.settleIntake_moves (s : State) (h : HeadId) : State.RecordMoves h s (s.settleIntake h) :=
  (State.advance_moves _ s h).trans (State.settleLane_moves _ h)

theorem State.intakeEntry_moves (s : State) (h : HeadId) (te : TrackEntry) (i : SiteId) (e : FailEntry) :
    State.RecordMoves h s (s.intakeEntry h te i e) := by
  have hdrop := s.rebuffer_moves h dropEntry dropEntry_tags
  unfold State.intakeEntry
  dsimp only
  split_ifs with hcheck hroom
  · exact (hdrop.trans (State.lose_moves _ h _ _ _).recordMoves).trans (State.settleIntake_moves _ h)
  · refine (hdrop.trans (State.gates_moves h i te.logArmed _ _ ?_).recordMoves).trans (State.settleIntake_moves _ h)
    exact hroom
  · exact .refl

end Sys2Proof.Machine
end

section
/-! Result records, fail entries, bursts and closings as sequences of moves. -/

namespace Sys2Proof.Machine

/-! ### Loss causes of several entries (R84, R88) -/

/-- A loss cause is reported for the snapshot sites of each entry of a list, one after another. -/
def Head.loseAll (c : LossCause) (es : List TrackEntry) (hd : Head) : Head :=
  es.foldl (fun k e => k.lose c e.sites) hd

theorem Head.loseAll_frame (c : LossCause) (es : List TrackEntry) (hd : Head) :
    hd.loseAll c es = { hd with sites := (hd.loseAll c es).sites } := by
  induction es generalizing hd with
  | nil => rfl
  | cons e es ih => exact ih (Head.lose c e.sites hd)

theorem LossCause.or_bit_or_bit (c : LossCause) (x : BitVec 10) : x ||| c.bit ||| c.bit = x ||| c.bit := by
  rw [BitVec.or_assoc, BitVec.or_self]

/-- The cause is recorded on each enabled site, not final, that is in the snapshot of one of the entries. -/
theorem Head.site_loseAll (c : LossCause) (es : List TrackEntry) (hd : Head) (i : SiteId) :
    (hd.loseAll c es).site i
      = if es.any (fun e => e.sites.getLsbD i.val) = true ∧ (hd.site i).enabled = true
            ∧ (hd.site i).verdict.isFinal = false then
          { hd.site i with causes := (hd.site i).causes ||| c.bit }
        else hd.site i := by
  induction es generalizing hd with
  | nil => rfl
  | cons e es ih =>
    refine (ih (Head.lose c e.sites hd)).trans ?_
    rw [Head.site_lose, List.any_cons]
    by_cases hlive : (hd.site i).enabled = true ∧ (hd.site i).verdict.isFinal = false
    · by_cases he : e.sites.getLsbD i.val = true
      · simp only [he, hlive, and_self, and_true, if_true, Bool.true_or, LossCause.or_bit_or_bit, ite_self]
      · rw [Bool.not_eq_true] at he
        simp only [he, hlive, Bool.false_eq_true, and_self, and_true, if_false, Bool.false_or]
    · have hlose (p : Prop) [Decidable p] : ¬ (p ∧ (hd.site i).enabled = true ∧ (hd.site i).verdict.isFinal = false) :=
        fun h => hlive h.2
      simp only [hlose, if_false]

theorem Head.tweak_loseAll (hd : Head) (c : LossCause) (es : List TrackEntry) : hd.Tweak (hd.loseAll c es) := by
  have hsite (i : SiteId) := Head.site_loseAll c es hd i
  rw [Head.loseAll_frame]
  exact
    { rawFails := fun i h => by
        have heq : ({ hd with sites := (hd.loseAll c es).sites } : Head).site i = (hd.loseAll c es).site i := rfl
        rw [heq, hsite]; split_ifs <;> exact h
      verdicts := fun i _ => by
        have heq : ({ hd with sites := (hd.loseAll c es).sites } : Head).site i = (hd.loseAll c es).site i := rfl
        rw [heq, hsite]; split_ifs <;> rfl }

theorem State.skipAhead_moves (s : State) (h : HeadId) (skipped : List TrackEntry) :
    State.LaneMoves h s (s.skipAhead h skipped) := by
  unfold State.skipAhead
  split_ifs
  · exact .refl
  · exact (State.LaneMove.tweak s h _ (Head.tweak_loseAll _ .sequence skipped)).trans (State.raise_moves _ h _)

theorem State.tracking_skipAhead (s : State) (h : HeadId) (skipped : List TrackEntry) :
    ((s.skipAhead h skipped).head h).tracking = (s.head h).tracking := by
  unfold State.skipAhead
  split_ifs
  · rfl
  · rw [State.head_raise_self, State.head_updHead_self]
    change ((s.head h).loseAll .sequence skipped).tracking = _
    rw [Head.loseAll_frame]

/-! ### Result records (5.4, 5.5) -/

theorem State.framingFailure_moves {s : State} {h : HeadId} {tag : Byte} {m : Matched}
    (hm : matchTag tag (s.head h).tracking = some m) : State.LaneMoves h s (s.framingFailure h m) :=
  (((Relation.ReflTransGen.single (.head _ (.unmatch tag m hm))).trans (State.lose_moves _ h _ _ _)).trans
    (State.settleDeadlines_moves _ h)).trans (State.testDrain_moves _ h)

theorem State.acceptRecord_moves {s : State} {h : HeadId} {tag : Byte} {m : Matched}
    (hm : matchTag tag (s.head h).tracking = some m) (overflow : Bool) (secs : List RecordSection) :
    State.RecordMoves h s (s.acceptRecord h m overflow tag secs) := by
  unfold State.acceptRecord
  refine Relation.ReflTransGen.trans ?_ (State.settleIntake_moves _ h)
  have haccept : State.RecordMoves h s ((s.updHead h (fun hd =>
      { hd with
        tracking := m.answered ++ { m.entry with deadline := .answered } :: m.later
        laneBuffer := hd.laneBuffer ++ [⟨tag, secs⟩] })).settleDeadlines h) :=
    (State.BufferMove.moves (.accept tag m secs hm)).trans (State.settleDeadlines_moves _ h).recordMoves
  split_ifs
  · exact haccept.trans (State.lose_moves _ h _ _ _).recordMoves
  · exact haccept

theorem State.offerRecord_moves (s : State) (h : HeadId) (unit : List Byte) :
    State.RecordMoves h s (s.offerRecord h unit) := by
  have hstray : State.RecordMoves h s (s.stray h) := (State.countStray_moves s h).recordMoves
  unfold State.offerRecord
  dsimp only
  split
  · split
    · exact hstray
    · rename_i m hm
      have hm' := hm
      rw [← State.tracking_skipAhead s h m.skipped] at hm'
      split
      · exact (State.skipAhead_moves s h _).recordMoves.trans (State.framingFailure_moves hm').recordMoves
      · exact (State.skipAhead_moves s h _).recordMoves.trans (State.acceptRecord_moves hm' _ _)
  · exact hstray

theorem State.setReception_moves (s : State) (h : HeadId) (f : Head → Option Reception) :
    State.RecordMoves h s (s.updHead h (fun hd => { hd with reception := f hd })) :=
  State.BufferMove.moves (.reception _)

theorem State.endRecord_moves (s : State) (h : HeadId) (unit : List Byte) :
    State.RecordMoves h s (s.endRecord h unit) := by
  have hended := s.setReception_moves h (fun _ => none)
  unfold State.endRecord
  dsimp only
  split_ifs
  · exact hended
  · exact hended.trans (State.offerRecord_moves _ h unit)

theorem State.discardSection_moves (s : State) (h : HeadId) : State.RecordMoves h s (s.discardSection h) :=
  State.BufferMove.moves (.rebuffer _ _ (dropSection_tags _) (fun _ => satSucc_le _ _))

theorem State.intake_moves (s : State) (h : HeadId) : State.RecordMoves h s (s.intake h) := by
  unfold State.intake
  split
  · split_ifs
    · exact State.intakeEntry_moves s h _ _ _
    · exact (State.discardSection_moves s h).trans (State.settleIntake_moves _ h)
  · exact .refl

/-! ### Bursts (chapter 4) -/

theorem Head.tweak_place (hd : Head) (b : Burst) (hsend : hd.sendQueue.length < Config.sendQueueSize) :
    hd.Tweak (hd.place b false) where
  sendQueue _ := by simpa [Head.place] using hsend

theorem Head.tweak_markerFlags (hd : Head) (a : Option MarkerAction) : hd.Tweak (hd.markerFlags a) := by
  unfold Head.markerFlags
  split <;> exact {}

theorem State.placeBurst_moves {s : State} {h : HeadId} (b : Burst) (hstate : (s.head h).state = .testing) :
    State.LaneMoves h s (s.placeBurst h b) := by
  unfold State.placeBurst
  dsimp only
  split_ifs with hsend hcompare hcompare htrack
  · exact State.lose_moves s h _ _ _
  · exact .refl
  · exact .single (.head _ (.place b hstate (not_le.mp hsend) htrack))
  · refine (State.lose_moves s h _ _ _).trans (State.LaneMove.tweak _ h _ (Head.tweak_place _ b ?_))
    rw [State.head_lose_self]
    exact not_le.mp hsend
  · exact State.LaneMove.tweak s h _ (Head.tweak_place _ b (not_le.mp hsend))

theorem State.state_placeBurst (s : State) (h : HeadId) (b : Burst) :
    ((s.placeBurst h b).head h).state = (s.head h).state := by
  unfold State.placeBurst
  dsimp only
  split_ifs <;> simp [State.head_lose_self, Head.place]

theorem Head.state_markerFlags (hd : Head) (a : Option MarkerAction) : (hd.markerFlags a).state = hd.state :=
  (hd.tweak_markerFlags a).state

theorem State.handleBurst_moves (b : Burst) (m : Option Marker) (s : State) (h : HeadId) :
    State.LaneMoves h s (State.handleBurst b m s h) := by
  unfold State.handleBurst
  split_ifs with hstate hend
  · have hflags : ((s.updHead h (fun hd => hd.markerFlags (actionOn m h))).head h).state = .testing := by
      rw [State.head_updHead_self, Head.state_markerFlags, hstate]
    refine ((State.LaneMove.tweak s h _ (Head.tweak_markerFlags _ _)).trans
      (State.placeBurst_moves b hflags)).trans (State.closeSegment_moves ?_)
    rw [State.state_placeBurst, hflags]
  · refine (State.LaneMove.tweak s h _ (Head.tweak_markerFlags _ _)).trans (State.placeBurst_moves b ?_)
    rw [State.head_updHead_self, Head.state_markerFlags, hstate]
  · exact State.LaneMove.tweak s h _ { skipped := fun _ => satSucc_le _ _ }

theorem State.markGap_moves (s : State) (h : HeadId) : State.LaneMoves h s (s.markGap h) :=
  State.lose_moves s h _ _ _

/-- A sequence of moves of any heads. -/
abbrev State.HeadMoves : State → State → Prop := Relation.ReflTransGen (fun s t => ∃ h, State.LaneMove h s t)

theorem State.LaneMoves.headMoves {h : HeadId} {s t : State} (hm : State.LaneMoves h s t) : State.HeadMoves s t := by
  induction hm with
  | refl => exact .refl
  | tail _ hstep ih => exact ih.tail ⟨h, hstep⟩

theorem State.foldl_headMoves {f : State → HeadId → State} (hf : ∀ s h, State.LaneMoves h s (f s h))
    (o : List HeadId) (s : State) : State.HeadMoves s (o.foldl f s) := by
  induction o generalizing s with
  | nil => exact .refl
  | cons h o ih => exact (hf s h).headMoves.trans (ih _)

theorem State.inAnyOrder_moves {f : State → HeadId → State} (hf : ∀ s h, State.LaneMoves h s (f s h))
    (hs : List HeadId) (s : State) : State.HeadMoves s (s.inAnyOrder hs f) := by
  obtain ⟨o, -, n, heq⟩ := s.inAnyOrder_mem hs f
  rw [heq]
  exact (State.foldl_headMoves hf o s).tail ⟨0, .free n⟩

theorem State.distribute_moves (s : State) (b : Burst) : State.HeadMoves s (s.distribute b) :=
  State.inAnyOrder_moves (fun s h => State.handleBurst_moves b _ s h) _ s

theorem State.markGaps_moves (s : State) : State.HeadMoves s s.markGaps :=
  State.inAnyOrder_moves State.markGap_moves _ s

end Sys2Proof.Machine
end

section
/-! Every command is a sequence of moves. -/

namespace Sys2Proof.Machine

/-! ### Lifting -/

theorem State.LaneMoves.moves {c : Instr} {h : HeadId} {s t : State} (hm : State.LaneMoves h s t)
    (hc : laneOf c = none ∨ laneOf c = some h) : State.Moves c s t := by
  induction hm with
  | refl => exact .refl
  | tail _ hstep ih => exact ih.tail (.lane h hc hstep)

theorem State.HeadMoves.moves {c : Instr} {s t : State} (hm : State.HeadMoves s t) (hc : laneOf c = none) :
    State.Moves c s t := by
  induction hm with
  | refl => exact .refl
  | tail _ hstep ih =>
    obtain ⟨h, hstep⟩ := hstep
    exact ih.tail (.lane h (.inl hc) hstep)

theorem State.RecordMoves.moves {c : Instr} {h : HeadId} {s t : State} (hm : State.RecordMoves h s t)
    (hc : laneOf c = some h) (hr : Instr.handlesRecords c = true) : State.Moves c s t := by
  induction hm with
  | refl => exact .refl
  | tail _ hstep ih =>
    rcases hstep with hlane | hbuffer
    · exact ih.tail (.lane h (.inr hc) hlane)
    · exact ih.tail (.buffer h hc hr hbuffer)

/-- A change of one head within a command that is none of its lane. -/
theorem State.Move.ofStep {c : Instr} (hc : laneOf c = none) (s : State) (h : HeadId) (f : Head → Head)
    (hf : (s.head h).Step (f (s.head h))) : State.Moves c s (s.updHead h f) :=
  .single (.lane h (.inl hc) (.head f hf))

/-! ### Requests (R8, R9) -/

/-- What REX does with the request in front: nothing, a failed check's reply, or its owner's action. -/
theorem State.execute_cases (s : State) (form : RequestForm) (act : Request → State → State) :
    s.execute form act = s ∨ ∃ r rest, s.requests = r :: rest ∧ s.canTake = true ∧ r.form = form
      ∧ ((∃ st, s.execute form act = (s.take r rest).reply st .empty)
        ∨ form.accepted (s.take r rest) r.head = true ∧ s.execute form act = act r (s.take r rest)) := by
  cases hq : s.requests with
  | nil => exact .inl (by simp [State.execute, hq])
  | cons r rest =>
    by_cases htake : s.canTake = true ∧ r.form = form
    · refine .inr ⟨r, rest, rfl, htake.1, htake.2, ?_⟩
      cases hcheck : r.check (s.take r rest) with
      | some st => exact .inl ⟨st, by simp [State.execute, hq, htake, hcheck]⟩
      | none =>
        refine .inr ⟨?_, by simp [State.execute, hq, htake, hcheck]⟩
        simp only [Request.check] at hcheck
        split_ifs at hcheck with h1 h2 h3 h4
        rw [← htake.2]
        simpa using h4
    · exact .inl (by simp [State.execute, hq, htake])

theorem State.canTake_iff (s : State) :
    s.canTake = true ↔ s.executing = none ∧ s.link = .inSync
      ∧ s.upstream.length + s.reservations.length < Config.upstreamQueueSize := by
  simp only [State.canTake, Bool.and_eq_true, Option.isNone_iff_eq_none, beq_iff_eq, decide_eq_true_eq, and_assoc]
  refine and_congr_right fun he => and_congr_right fun _ => ?_
  simp [State.freeSlots, he]
  omega

theorem State.LinkMid.take {s : State} {r : Request} {rest : List Request} (hs : s.LinkMid)
    (hq : s.requests = r :: rest) (htake : s.canTake = true) : (s.take r rest).LinkMid := by
  obtain ⟨he, hl, hfree⟩ := s.canTake_iff.mp htake
  obtain ⟨h1, h2, h3, h4, h5, h6, h7⟩ := hs
  refine ⟨?_, ?_, h3, h4, h5, h6, fun ho => ?_⟩
  · simp only [hq, List.length_cons] at h1
    exact (Nat.le_succ _).trans h1
  · simpa [State.take] using hfree
  · cases hl.symm.trans ho

theorem State.LinkMid.reply {s : State} (hs : s.LinkMid) (st : Status) (body : ReplyBody) :
    (s.reply st body).LinkMid := by
  unfold State.reply
  split
  · exact hs
  · rename_i r he
    obtain ⟨h1, h2, h3, h4, h5, h6, h7⟩ := hs
    refine ⟨h1, ?_, h3, h4, h5, h6, fun ho => ?_⟩
    · simp [he] at h2 ⊢
      omega
    · simp [he] at h7
      exact absurd ho h7

theorem State.reply_moves {c : Instr} (hc : laneOf c = none) (hreq : (requestFormOf c).isSome = true) (s : State) (st : Status)
    (body : ReplyBody) : State.Moves c s (s.reply st body) := by
  refine .single (.shared _ hc (fun h => by simp [h] at hreq) ?_ (fun hs => hs.reply st body))
  unfold State.reply
  split <;> rfl

theorem State.execute_moves {c : Instr} (hc : laneOf c = none) (hreq : (requestFormOf c).isSome = true) (s : State)
    (form : RequestForm) (act : Request → State → State)
    (hact : ∀ (r : Request) (u : State), u.executing = some r → u.link = .inSync → form.accepted u r.head = true →
      State.Moves c u (act r u)) :
    State.Moves c s (s.execute form act) := by
  rcases s.execute_cases form act with heq | ⟨r, rest, hq, htake, hform, hcase⟩
  · rw [heq]
  · have hmove : State.Move c s (s.take r rest) :=
      .shared _ hc (fun h => by simp [h] at hreq) rfl (fun hs => hs.take hq htake)
    obtain ⟨-, hlink, -⟩ := s.canTake_iff.mp htake
    rcases hcase with ⟨st, heq⟩ | ⟨haccepted, heq⟩
    · rw [heq]
      exact (State.reply_moves hc hreq _ st _).head hmove
    · rw [heq]
      exact (hact r (s.take r rest) rfl hlink haccepted).head hmove

/-! ### Closings (R31) -/

/-- The head after the closing actions, with the loss marking of a cause or without (R31). -/
theorem State.laneLoss_moves {c : Instr} {s : State} {h : HeadId} (k : Head → Head)
    (hc : c = .headStart ∨ c = .laneSignalLoss h) (hk : (s.head h).SameRecords (k (s.head h))) :
    State.Moves c s ((s.updHead h k).laneLoss h) := by
  have hlane : laneOf c = none ∨ laneOf c = some h := by
    rcases hc with rfl | rfl
    · exact .inl rfl
    · exact .inr rfl
  refine ((State.raise_moves _ h .offline).moves hlane).head (.lost h ?_ ?_)
  · tauto
  · exact .mk k _ .laneLost .offline hk rfl (fun _ => rfl) (fun _ => .inr rfl)

theorem State.fence_moves (s : State) (h : HeadId) : State.Moves (.fenceTimerExpiry h) s (s.fence h) := by
  refine ((State.raise_moves _ h .fenced).moves (.inl rfl)).head (.lost h (.inr (.inl rfl)) ?_)
  have hmk := State.Lost.mk (s := s) (h := h) id
    (fun hd => { hd with state := .fenced, reason := .supply, phase := none }) .fence .fenced {} rfl (fun _ => rfl)
    (fun _ => .inl rfl)
  rwa [State.updHead_eq_self s (h := h) (f := id) rfl] at hmk

theorem State.startHead_moves {s : State} {h : HeadId} (hstate : (s.head h).state = .offline) :
    State.Moves .headStart s (s.startHead h) := by
  unfold State.startHead
  dsimp only
  split_ifs with hsignal
  · exact State.Move.ofStep rfl s h _ (.start hstate hsignal)
  · exact State.laneLoss_moves Head.start (.inl rfl)
      { rawFails := fun i => by simp [Head.start, Head.site, Head.mapSites]
        verdicts := fun i => by simp [Head.start, Head.site, Head.mapSites] }

theorem State.resetHead_moves (s : State) (h : HeadId) : State.Moves .headReset s (s.resetHead h) :=
  ((State.raise_moves _ h .offline).moves (.inl rfl)).head (.headReset h rfl)

end Sys2Proof.Machine
end

section
/-! The moves of each command. -/

namespace Sys2Proof.Machine

/-! ### What the moves of a head leave -/

theorem State.deferredReply_frame (s : State) (h : HeadId) (a : Access) (st : Status) (body : ReplyBody) :
    s.deferredReply h a st body = { s with
      upstream := (s.deferredReply h a st body).upstream, reservations := (s.deferredReply h a st body).reservations } := by
  unfold State.deferredReply
  split
  · rfl
  · split_ifs <;> rfl

theorem State.endAccess_frame (s : State) (h : HeadId) (st : Status) (body : ReplyBody) :
    s.endAccess h st body = { s with
      heads := (s.endAccess h st body).heads, upstream := (s.endAccess h st body).upstream
      reservations := (s.endAccess h st body).reservations } := by
  unfold State.endAccess
  split
  · rfl
  · rw [State.deferredReply_frame]
    rfl

/-- A move of one head leaves the link, the tables, the Request Queue, the counts and the engine. -/
theorem State.LaneMove.frame {h : HeadId} {s t : State} (hm : State.LaneMove h s t) :
    t = { s with
      heads := t.heads, upstream := t.upstream, reservations := t.reservations, analysis := t.analysis
      solveList := t.solveList, freeCount := t.freeCount } := by
  cases hm with
  | endAccess => rw [State.endAccess_frame]
  | _ => rfl

theorem State.HeadMoves.frame {s t : State} (hm : State.HeadMoves s t) :
    t = { s with
      heads := t.heads, upstream := t.upstream, reservations := t.reservations, analysis := t.analysis
      solveList := t.solveList, freeCount := t.freeCount } := by
  induction hm with
  | refl => rfl
  | tail _ hstep ih =>
    obtain ⟨h, hstep⟩ := hstep
    rw [hstep.frame, ih]

/-! ### The Pattern Link (chapter 1) -/

theorem State.takeBurst_moves {c : Instr} (hc : laneOf c = none) {s : State} (hlink : s.link = .inSync) (b : Burst) :
    State.Moves c s (s.takeBurst b) := by
  have hmark : State.HeadMoves s (if s.revealsGap b then s.markGaps else s) := by
    split_ifs
    · exact s.markGaps_moves
    · exact .refl
  have hmarked : (if s.revealsGap b then s.markGaps else s).link = .inSync := by rw [hmark.frame, hlink]
  refine ((hmark.moves hc).tail (.shared { (if s.revealsGap b then s.markGaps else s) with
    expected := some (b.sequence + 1) } hc (fun _ => rfl) rfl ?_)).trans ((State.distribute_moves _ b).moves hc)
  rintro ⟨h1, h2, h3, h4, h5, h6, -⟩
  exact ⟨h1, h2, h3, h4, h5, h6, fun ho => by cases hmarked.symm.trans ho⟩

theorem State.LinkMid.checkPassed {s : State} (hs : s.LinkMid) : s.checkPassed.LinkMid := by
  obtain ⟨h1, h2, h3, -, h5, h6, h7⟩ := hs
  refine ⟨h1, h2, h3, Nat.zero_lt_succ _, h5, h6, fun ho => ?_⟩
  obtain ⟨hq, hu, hr, -, he, hx⟩ := h7 ho
  exact ⟨hq, hu, hr, rfl, he, hx⟩

theorem State.LinkMid.discardFrame {s : State} (hs : s.LinkMid) : s.discardFrame.LinkMid := by
  obtain ⟨h1, h2, h3, h4, -, h6, h7⟩ := hs
  exact ⟨h1, h2, h3, h4, satSucc_le _ _, h6, h7⟩

theorem State.LinkMid.takeRequest {s : State} (hs : s.LinkMid) (hlink : s.link = .inSync) (r : Request) :
    (s.takeRequest r).LinkMid := by
  obtain ⟨h1, h2, h3, h4, h5, h6, h7⟩ := hs
  unfold State.takeRequest
  split_ifs with hroom
  · refine ⟨?_, h2, h3, h4, h5, h6, fun ho => by cases hlink.symm.trans ho⟩
    simpa using hroom
  · exact ⟨h1, h2, h3, h4, h5, satSucc_le _ _, h7⟩

theorem State.Move.checkPassed {c : Instr} (hc : laneOf c = none) (s : State) : State.Move c s s.checkPassed :=
  .shared _ hc (fun _ => rfl) rfl State.LinkMid.checkPassed

theorem State.Move.discardFrame {c : Instr} (hc : laneOf c = none) (s : State) : State.Move c s s.discardFrame :=
  .shared _ hc (fun _ => rfl) rfl State.LinkMid.discardFrame

theorem State.Move.takeRequest {c : Instr} (hc : laneOf c = none) {s : State} (hlink : s.link = .inSync)
    (r : Request) : State.Move c s (s.takeRequest r) := by
  refine .shared _ hc (fun _ => ?_) ?_ (fun hs => hs.takeRequest hlink r) <;>
    unfold State.takeRequest <;> split_ifs <;> rfl

/-- A frame that passed its check makes moves of the link, or is distributed as a burst (R1). -/
theorem State.receive_moves {c : Instr} (hc : laneOf c = none) {s : State} (hlink : s.link = .inSync) (f : LinkFrame) :
    State.Moves c s (s.receive f) := by
  have hpass := State.Move.checkPassed hc s
  unfold State.receive
  split_ifs
  · exact (State.takeBurst_moves hc (s := s.checkPassed) hlink _).head hpass
  · exact .head hpass (.single (.takeRequest hc (s := s.checkPassed) hlink _))
  · exact .head hpass (.single (.discardFrame hc _))

theorem State.acquire_moves {c : Instr} (hc : laneOf c = none) (s : State) (f : LinkFrame) (n : Nat) :
    State.Moves c s ({ s with freeCount := n }.acquire f) := by
  have hstart : State.Move c s { s with freeCount := n, link := .inSync, failureRun := 0 } := by
    refine .shared _ hc (fun _ => rfl) rfl ?_
    rintro ⟨h1, h2, h3, -, h5, h6, -⟩
    exact ⟨h1, h2, h3, Nat.zero_lt_succ _, h5, h6, nofun⟩
  exact (State.receive_moves hc rfl f).head hstart

theorem execSyncAcquisition_moves {stream : List LineSymbol} {s t : State}
    (he : execSyncAcquisition stream s = .next t) : State.Moves (.syncAcquisition stream) s t := by
  unfold execSyncAcquisition at he
  split_ifs at he
  · split at he
    · cases he; exact .refl
    · cases he; exact State.acquire_moves rfl s _ s.freeCount
    · cases he; exact State.acquire_moves rfl s _ _
  · cases he; exact .refl

theorem execPatternLinkLoss_moves {cause : LinkLossCause} {s t : State} (he : execPatternLinkLoss cause s = .next t) :
    State.Moves (.patternLinkLoss cause) s t := by
  unfold execPatternLinkLoss at he
  split_ifs at he with hloss
  · cases he; exact .single (.linkLoss ⟨rfl, rfl⟩ hloss.1)
  · cases he; exact .refl

theorem execFrameCheckFailure_moves {f : LinkFrame} {s t : State} (he : execFrameCheckFailure f s = .next t) :
    State.Moves (.frameCheckFailure f) s t := by
  unfold execFrameCheckFailure at he
  dsimp only at he
  split_ifs at he with hfail hrun
  · cases he
    refine .head (.linkLoss ⟨rfl, rfl⟩ hfail.1) (.single (.shared _ rfl (fun _ => rfl) rfl ?_))
    rintro ⟨h1, h2, h3, h4, -, h6, h7⟩
    exact ⟨h1, h2, h3, h4, satSucc_le _ _, h6, h7⟩
  · cases he
    refine .single (.shared _ rfl (fun _ => rfl) rfl ?_)
    rintro ⟨h1, h2, h3, -, -, h6, -⟩
    exact ⟨h1, h2, h3, not_le.mp hrun, satSucc_le _ _, h6, fun ho => by cases hfail.1.symm.trans ho⟩
  · cases he; exact .refl

theorem State.hears_inSync {s : State} {f : LinkFrame} (hh : s.hears f = true) : s.link = .inSync := by
  simp only [State.hears, Bool.and_eq_true, beq_iff_eq] at hh
  exact hh.1.1

theorem execBurst_moves {f : LinkFrame} {s t : State} (he : execBurst f s = .next t) :
    State.Moves (.burst f) s t := by
  unfold execBurst at he
  split_ifs at he with hh
  · cases he
    exact (State.takeBurst_moves rfl (s := s.checkPassed) (State.hears_inSync hh.1) _).head (.checkPassed rfl s)
  · cases he; exact .refl

theorem execRequestFrame_moves {f : LinkFrame} {s t : State} (he : execRequestFrame f s = .next t) :
    State.Moves (.requestFrame f) s t := by
  unfold execRequestFrame at he
  split_ifs at he with hh
  · cases he
    exact .head (.checkPassed rfl s) (.single (.takeRequest rfl (s := s.checkPassed) (State.hears_inSync hh.1) _))
  · cases he; exact .refl

theorem execMalformedFrame_moves {f : LinkFrame} {s t : State} (he : execMalformedFrame f s = .next t) :
    State.Moves (.malformedFrame f) s t := by
  unfold execMalformedFrame at he
  split_ifs at he
  · cases he
    exact .head (.checkPassed rfl s) (.single (.discardFrame rfl _))
  · cases he; exact .refl

theorem execUpstreamSend_moves {s t : State} (he : execUpstreamSend s = .next t) : State.Moves .upstreamSend s t := by
  unfold execUpstreamSend at he
  split at he
  · cases he; exact .refl
  · rename_i f rest hup
    split_ifs at he with hlink
    · cases he
      refine .single (.shared _ rfl (fun _ => rfl) rfl ?_)
      rintro ⟨h1, h2, h3, h4, h5, h6, -⟩
      refine ⟨h1, ?_, h3, h4, h5, h6, fun ho => by cases hlink.symm.trans ho⟩
      rw [hup, List.length_cons] at h2
      exact (Nat.add_le_add_right (Nat.add_le_add_right (Nat.le_succ _) _) _).trans h2
    · cases he; exact .refl

/-! ### Lane events outside the result path (chapter 2, 4.5) -/

theorem execHeadBurstSend_moves {h : HeadId} {s t : State} (he : execHeadBurstSend h s = .next t) :
    State.Moves (.headBurstSend h) s t := by
  unfold execHeadBurstSend at he
  split at he
  · cases he; exact .refl
  · rename_i b rest hq
    split_ifs at he
    · cases he
      refine (State.LaneMove.tweak s h _ { sendQueue := fun hlen => ?_ }).moves (.inr rfl)
      rw [hq, List.length_cons] at hlen
      exact (Nat.le_succ _).trans hlen
    · cases he; exact .refl

theorem execMaintSend_moves {h : HeadId} {s t : State} (he : execMaintSend h s = .next t) :
    State.Moves (.maintSend h) s t := by
  unfold execMaintSend at he
  split at he
  · cases he; exact .refl
  · rename_i a ha
    split_ifs at he
    · cases he
      exact (State.LaneMove.tweak s h _ { slot := by simp [ha] }).moves (.inr rfl)
    · cases he; exact .refl

theorem execProbeSend_moves {h : HeadId} {s t : State} (he : execProbeSend h s = .next t) :
    State.Moves (.probeSend h) s t := by
  unfold execProbeSend at he
  dsimp only at he
  split_ifs at he
  · cases he
    exact (State.LaneMove.tweak s h _ {}).moves (.inr rfl)
  · cases he; exact .refl

/-- The end of transmission starts one deadline: PAUSED with the lane held, RUNNING otherwise. -/
theorem retimed_startDeadline (held : Bool) (tag : Byte) (n : Nat) (q : List TrackEntry) :
    Retimed held q (startDeadline tag (if held then .paused n else .running n) q) := by
  induction q with
  | nil => exact .nil
  | cons e q ih =>
    unfold startDeadline
    split_ifs with he hheld
    · exact .cons ⟨rfl, by simp [he.2], fun _ _ => by simp, fun hf => by simp [hheld] at hf⟩ (Retimed.refl _ q)
    · exact .cons ⟨rfl, by simp [he.2], fun hf => absurd hf hheld, fun _ _ => by simp⟩ (Retimed.refl _ q)
    · refine .cons ⟨rfl, Iff.rfl, fun _ h => h, fun _ h => h⟩ ?_
      rwa [if_pos (by assumption)] at ih
    · refine .cons ⟨rfl, Iff.rfl, fun _ h => h, fun _ h => h⟩ ?_
      rwa [if_neg (by assumption)] at ih

theorem execBurstTransmitEnd_moves {h : HeadId} {s t : State} (he : execBurstTransmitEnd h s = .next t) :
    State.Moves (.burstTransmitEnd h) s t := by
  unfold execBurstTransmitEnd at he
  split at he
  · cases he; exact .refl
  · cases he
    refine (State.LaneMove.tweak s h _ { tracking := ?_ }).moves (.inr rfl)
    dsimp only
    split
    · exact retimed_startDeadline _ _ _ _
    · exact Retimed.refl _ _

theorem State.failTraining_moves {s : State} {h : HeadId} (why : Reason)
    (htraining : (s.head h).hunting = true ∨ ∃ a, (s.head h).slot = some a ∧ a.origin = .profileRead) :
    State.LaneMoves h s (s.failTraining h why) :=
  (Relation.ReflTransGen.single (.head _ (.failTraining why htraining))).trans (State.raise_moves _ h _)

theorem State.measure_moves {s : State} {h : HeadId} (measured : Nat) (hhunt : (s.head h).hunting = true) :
    State.LaneMoves h s (s.measure h measured) := by
  unfold State.measure
  split
  · exact .single (.head _ (.enterProfile measured _ _ hhunt))
  · refine (State.LaneMove.tweak s h _ {}).trans (State.failTraining_moves _ (.inl ?_))
    rw [State.head_updHead_self]
    exact hhunt

theorem execEcho_moves {h : HeadId} {after : Nat} {s t : State} (he : execEcho h after s = .next t) :
    State.LaneMoves h (s.elapse after) t := by
  unfold execEcho at he
  dsimp only at he
  split at he
  · rename_i hhunt
    split at he
    · split_ifs at he <;> cases he
      · exact State.measure_moves _ hhunt.1
      · exact State.failTraining_moves _ (.inl hhunt.1)
    · cases he
      exact (Relation.ReflTransGen.single (.free _)).trans (State.measure_moves (h := h) _ hhunt.1)
  · cases he; exact .refl

theorem Head.hunting_elapse (hd : Head) (n : Nat) : (hd.elapse n).hunting = hd.hunting := rfl

theorem execRoundTripTimeout_moves {h : HeadId} {s t : State} (he : execRoundTripTimeout h s = .next t) :
    t = s ∨ ∃ n, (s.head h).roundTripTimer = some n ∧ (s.head h).hunting = true
      ∧ State.LaneMoves h (s.elapse (Config.maxQuanta - n)) t := by
  unfold execRoundTripTimeout at he
  split at he
  · cases he; exact .inl rfl
  · rename_i n hn
    split_ifs at he with hhunt
    · cases he
      exact .inr ⟨n, hn, hhunt, State.failTraining_moves _ (.inl (by rwa [State.head_elapse, Head.hunting_elapse]))⟩
    · cases he; exact .inl rfl

theorem Head.slot_elapse (hd : Head) (n : Nat) :
    (hd.elapse n).slot = hd.slot.map (fun a => { a with timer := a.timer - n }) := rfl

theorem execProxyTimeout_moves {h : HeadId} {s t : State} (he : execProxyTimeout h s = .next t) :
    t = s ∨ ∃ a, (s.head h).slot = some a ∧ State.LaneMoves h (s.elapse a.timer) t := by
  unfold execProxyTimeout at he
  split at he
  · cases he; exact .inl rfl
  · rename_i a ha
    have hslot : ((s.elapse a.timer).head h).slot = some { a with timer := a.timer - a.timer } := by
      rw [State.head_elapse, Head.slot_elapse, ha]
      rfl
    split_ifs at he with horigin <;> cases he
    · exact .inr ⟨a, ha, State.failTraining_moves _ (.inr ⟨_, hslot, horigin⟩)⟩
    · exact .inr ⟨a, ha, .single (.endAccess _ _ _ hslot horigin)⟩

theorem State.profileAnswer_moves {s : State} {h : HeadId} (body : List Byte)
    (hslot : ∃ a, (s.head h).slot = some a ∧ a.origin = .profileRead) :
    State.LaneMoves h s (s.profileAnswer h body) := by
  unfold State.profileAnswer
  split
  · exact (Relation.ReflTransGen.single (.head _ (.acceptProfile _ hslot))).trans (State.raise_moves _ h _)
  · exact State.failTraining_moves _ (.inr hslot)

theorem execMaintAnswer_moves {h : HeadId} {body : List Byte} {s t : State} (he : execMaintAnswer h body s = .next t) :
    State.LaneMoves h s t := by
  unfold execMaintAnswer at he
  split at he
  · cases he; exact .refl
  · rename_i a ha
    split at he
    · split at he <;> cases he
      · exact State.profileAnswer_moves body ⟨a, ha, by assumption⟩
      · exact .single (.endAccess a _ _ ha (by assumption))
    · cases he; exact .refl

theorem execSupplyGoodFall_moves {h : HeadId} {s t : State} (he : execSupplyGoodFall h s = .next t) :
    State.LaneMoves h s t := by
  unfold execSupplyGoodFall at he
  split_ifs at he <;> cases he
  · exact .single (.head _ .supplyFall)
  · exact .refl

theorem execSupplyGoodRise_moves {h : HeadId} {s t : State} (he : execSupplyGoodRise h s = .next t) :
    State.LaneMoves h s t := by
  cases he
  exact .single (.head _ .supplyRise)

theorem execLaneSignalReturn_moves {h : HeadId} {s t : State} (he : execLaneSignalReturn h s = .next t) :
    State.LaneMoves h s t := by
  cases he
  exact .single (.head _ (.signal true nofun))

theorem execFenceTimerExpiry_moves {h : HeadId} {s t : State} (he : execFenceTimerExpiry h s = .next t) :
    t = s ∨ ∃ n, (s.head h).fenceTimer = some n ∧ (s.head h).state.monitored = true ∧ t = (s.elapse n).fence h := by
  unfold execFenceTimerExpiry at he
  split at he
  · cases he; exact .inl rfl
  · rename_i n hn
    split_ifs at he with hmon <;> cases he
    · exact .inr ⟨n, hn, hmon, rfl⟩
    · exact .inl rfl

theorem execLaneSignalLoss_moves {h : HeadId} {s t : State} (he : execLaneSignalLoss h s = .next t) :
    State.Moves (.laneSignalLoss h) s t := by
  unfold execLaneSignalLoss at he
  dsimp only at he
  split_ifs at he with hsignal hmon <;> cases he
  · exact State.laneLoss_moves _ (.inr rfl) {}
  · have hgone : State.RecordMoves h s (s.updHead h (fun hd => { hd with laneSignal := false })) :=
      .single (.inl (.head _ (.signal false fun _ => Bool.not_eq_true _ ▸ hmon)))
    have hall := (hgone.trans (State.setReception_moves _ h (fun _ => none))).trans (State.settleLane_moves _ h)
    exact State.RecordMoves.moves hall rfl rfl
  · exact .refl

/-! ### The result path (chapter 5) -/

theorem execResultRecord_moves {h : HeadId} {unit : List Byte} {s t : State}
    (he : execResultRecord h unit s = .next t) : State.RecordMoves h s t := by
  unfold execResultRecord at he
  split_ifs at he <;> cases he
  · exact (State.endRecord_moves s h unit).trans (State.settleLane_moves _ h)
  · exact .refl

theorem execFailEntryArrival_moves {h : HeadId} {s t : State} (he : execFailEntryArrival h s = .next t) :
    State.RecordMoves h s t := by
  unfold execFailEntryArrival at he
  split_ifs at he <;> cases he
  · exact (State.setReception_moves s h (fun hd => some (Reception.arrive hd.reception))).trans
      (State.settleLane_moves _ h)
  · exact .refl

theorem execTrackingExpiry_moves {h : HeadId} {s t : State} (he : execTrackingExpiry h s = .next t) :
    t = s ∨ ∃ n, (oldestUnanswered (s.head h).tracking).map TrackEntry.deadline = some (.running n)
      ∧ t = (s.elapse n).settleDeadlines h := by
  unfold execTrackingExpiry at he
  split at he
  · cases he; exact .inr ⟨_, by assumption, rfl⟩
  · cases he; exact .inl rfl

end Sys2Proof.Machine
end

section
/-! The moves of the requests and of the engine, and the moves of every command. -/

namespace Sys2Proof.Machine

/-! ### Requests that change one head (chapters 2, 3, 6 and 9) -/

/-- A request that changes one head in one piece and is then answered. -/
theorem State.updHead_reply_moves {c : Instr} (hc : laneOf c = none) (hreq : (requestFormOf c).isSome = true) (u : State)
    (h : HeadId) (f : Head → Head) (hf : (u.head h).Step (f (u.head h))) (st : Status) (body : ReplyBody) :
    State.Moves c u ((u.updHead h f).reply st body) :=
  (State.Move.ofStep hc u h f hf).trans (State.reply_moves hc hreq _ st body)

/-- A request that is answered and changes nothing else. -/
theorem State.execute_reply_moves {c : Instr} (hc : laneOf c = none) (hreq : (requestFormOf c).isSome = true) (s : State)
    (form : RequestForm) (st : Status) (body : Request → State → ReplyBody) :
    State.Moves c s (s.execute form (fun r u => u.reply st (body r u))) :=
  State.execute_moves hc hreq s form _ fun _ u _ _ _ => State.reply_moves hc hreq u st _

theorem State.setup_moves (u : State) (r : Request) : State.Moves .headSetup u (u.setup r) := by
  unfold State.setup
  split
  · exact State.reply_moves rfl rfl u _ _
  · exact State.updHead_reply_moves rfl rfl u _ _ (.tweak {}) _ _

theorem State.commit_moves {u : State} {h : HeadId} (hstate : (u.head h).state = .config) :
    State.Moves .headCommit u (u.commit h) := by
  unfold State.commit
  split_ifs
  · exact State.updHead_reply_moves rfl rfl u _ _
      (.goTo .ready (by simp [hstate]) (by simp) (by simp [hstate, HeadState.collecting])) _ _
  · exact State.reply_moves rfl rfl u _ _

theorem State.writeGeometry_moves (u : State) (r : Request) :
    State.Moves .tableWriteGeometry u (u.writeGeometry r) := by
  unfold State.writeGeometry
  split
  · exact State.reply_moves rfl rfl u _ _
  · rename_i g hg
    simp only [Request.geometry] at hg
    split_ifs at hg
    cases hg
    exact State.updHead_reply_moves rfl rfl u _ _ (.geometry _ (Nat.min_le_right _ _) (Nat.min_le_right _ _)) _ _

/-- A change of the shared tables. -/
theorem State.Move.tables {c : Instr} (hc : laneOf c = none) (u : State) (m : Vector Marker 8)
    (l : Vector LatencyClass 8) : State.Move c u { u with markers := m, latency := l } :=
  .shared _ hc (fun _ => rfl) rfl fun ⟨h1, h2, h3, h4, h5, h6, h7⟩ => ⟨h1, h2, h3, h4, h5, h6, h7⟩

theorem State.writeMarker_moves (u : State) (r : Request) : State.Moves .tableWriteMarker u (u.writeMarker r) := by
  unfold State.writeMarker
  split
  · exact State.reply_moves rfl rfl u _ _
  · exact (State.reply_moves rfl rfl _ _ _).head (.tables rfl u _ u.latency)

theorem Head.tweak_updSite (hd : Head) (i : SiteId) {f : Site → Site} (hraw : ∀ st, (f st).rawFails = st.rawFails)
    (hverdict : ∀ st, (f st).verdict = st.verdict) : hd.Tweak (hd.updSite i f) where
  rawFails j hj := by
    by_cases he : j = i
    · subst he; rwa [Head.site_updSite_self, hraw]
    · rwa [Head.site_updSite_ne _ _ he]
  verdicts j _ := by
    by_cases he : j = i
    · subst he; rw [Head.site_updSite_self, hverdict]
    · rw [Head.site_updSite_ne _ _ he]

theorem State.setSites_moves (u : State) (r : Request) : State.Moves .setSites u (u.setSites r) :=
  State.updHead_reply_moves rfl rfl u _ _ 
    (.tweak ((u.head r.head).tweak_mapSites (f := fun i st =>
      { st with enabledNext := (r.sites &&& (u.head r.head).presentSet).getLsbD i.val }) (fun _ _ => rfl) (fun _ _ _ => rfl))) _ _

theorem State.stopRequest_moves (u : State) (r : Request) : State.Moves .stopSite u (u.stopRequest r) := by
  unfold State.stopRequest
  split_ifs
  · exact ((State.stopSite_moves u _ _ _).moves (.inl rfl)).trans (State.reply_moves rfl rfl _ _ _)
  · exact State.reply_moves rfl rfl u _ _

theorem State.readLog_moves (u : State) (r : Request) : State.Moves .logRead u (u.readLog r) := by
  refine State.updHead_reply_moves rfl rfl u _ _ (.tweak { log := fun hlen => ?_ }) _ _
  exact (List.drop_sublist _ _).length_le.trans hlen

theorem State.writeMask_moves (u : State) (r : Request) : State.Moves .eventMask u (u.writeMask r) := by
  have hmask : State.LaneMoves r.head u (u.updHead r.head (fun hd => { hd with mask := r.arg 1 })) :=
    State.LaneMove.tweak u _ _ {}
  unfold State.writeMask
  dsimp only
  refine Relation.ReflTransGen.trans ?_ (State.reply_moves rfl rfl _ _ _)
  split_ifs
  · exact (hmask.moves (.inl rfl)).trans ((State.offerNotice_moves _ _).moves (.inl rfl))
  · exact hmask.moves (.inl rfl)

theorem State.startAccess_moves {u : State} {r : Request} (hexec : u.executing = some r) (hlink : u.link = .inSync)
    (hstate : RequestForm.maintAccess.accepted u r.head = true) : State.Moves .maintAccess u (u.startAccess r) := by
  unfold State.startAccess
  dsimp only
  split_ifs with hslot hretry
  · exact State.reply_moves rfl rfl u _ _
  · exact State.reply_moves rfl rfl u _ _
  · refine .single (.reserve r.head _ rfl (by simp [hexec]) hlink (by simpa using hslot) ?_ nofun rfl)
    simpa [RequestForm.accepted, and_assoc] using hstate

/-! ### The engine (chapters 7 and 8) -/

theorem State.itemEnded_moves (s : State) (it : FailItem) : State.LaneMoves it.head s (s.itemEnded it) := by
  unfold State.itemEnded
  split_ifs
  · exact State.testDrain_moves s _
  · exact .refl

theorem State.dequeuePasses_iff (s : State) (it : FailItem) :
    s.dequeuePasses it = true ↔ it.generation = (s.head it.head).generation
      ∧ ((s.head it.head).site it.site).stopped = false ∧ ((s.head it.head).block it.site it.block).state = .collecting := by
  simp [State.dequeuePasses, and_assoc]

theorem execItemTake_moves {s t : State} (he : execItemTake s = .next t) : State.Moves .itemTake s t := by
  unfold execItemTake at he
  split at he
  · cases he; exact .refl
  · rename_i it rest hq
    split_ifs at he <;> cases he
    · unfold State.takeItem
      dsimp only
      split
      · rename_i hpass
        obtain ⟨hgen, -⟩ := (State.dequeuePasses_iff _ it).mp hpass
        exact .single (.takeItem it rest rfl hq hgen)
      · exact ((State.itemEnded_moves _ it).moves (.inl rfl)).head (.dropItem it rest rfl hq)
    · exact .refl

theorem State.appendLogs_moves (h : HeadId) (es : List LogEntry) (s : State) :
    State.LaneMoves h s (es.foldl (fun t e => t.appendLog h e) s) := by
  induction es generalizing s with
  | nil => exact .refl
  | cons e es ih => exact (State.appendLog_moves s h e).trans (ih _)

theorem State.reportReject_moves (s : State) (it : FailItem) : State.LaneMoves it.head s (s.reportReject it) := by
  unfold State.reportReject
  split_ifs
  · exact State.stopSite_moves s _ _ _
  · exact .refl

theorem State.applyItem_moves {s : State} {it : FailItem}
    (hblock : ((s.head it.head).block it.site it.block).state = .collecting) :
    State.LaneMoves it.head s (s.applyItem it) := by
  have hlogged (es : List LogEntry) : State.LaneMoves it.head s (es.foldl (fun t e => t.appendLog it.head e)
      (s.updHead it.head (fun hd => hd.setBlock it.site it.block
        (processItem (s.head it.head).geometry ((s.head it.head).block it.site it.block) it).1))) :=
    (Relation.ReflTransGen.single (.head _ (.process it.site it.block it hblock))).trans
      (State.appendLogs_moves _ es _)
  unfold State.applyItem
  dsimp only
  split_ifs
  · exact (hlogged _).trans (State.reportReject_moves _ it)
  · exact hlogged _

theorem execItemCompletion_moves {s t : State} (he : execItemCompletion s = .next t) :
    State.Moves .itemCompletion s t := by
  unfold execItemCompletion at he
  split at he
  · rename_i it overtaken hengine
    cases he
    refine .head (.idle (.inl rfl)) (State.LaneMoves.moves (h := it.head) ?_ (.inl rfl))
    unfold State.completeItem
    dsimp only
    refine Relation.ReflTransGen.trans ?_ (State.itemEnded_moves _ it)
    split
    · rename_i hpass
      obtain ⟨-, -, hblock⟩ := (State.dequeuePasses_iff _ it).mp (Bool.and_eq_true _ _ ▸ hpass).2
      exact State.applyItem_moves hblock
    · exact .refl
  · cases he; exact .refl

theorem execSolveJobTake_moves {s t : State} (he : execSolveJobTake s = .next t) : State.Moves .solveJobTake s t := by
  unfold execSolveJobTake at he
  split at he
  · cases he; exact .refl
  · rename_i j rest hq
    split_ifs at he <;> cases he
    · exact .single (.takeJob j rest rfl hq)
    · exact .refl

theorem State.jobPasses_iff (s : State) (j : SolveJob) (overtaken : Bool) :
    s.jobPasses j overtaken = true ↔ j.generation = (s.head j.head).generation ∧ overtaken = false
      ∧ ((s.head j.head).block j.site j.block).state = .queued := by
  simp [State.jobPasses, and_assoc]

/-- The completion of a job that takes effect: the change of its head, and SEGMENT_DONE when it was the head's last. -/
theorem State.applyJob_eq (s : State) (j : SolveJob) (found : Option Solution) :
    s.applyJob j found
      = if s.solveList.any (fun k => k.head == j.head) then s.updHead j.head (fun hd => hd.finishJob j found false)
        else (s.updHead j.head (fun hd => hd.finishJob j found true)).raise j.head .segmentDone := by
  unfold State.applyJob
  dsimp only
  rw [State.updHead_updHead]
  rfl

theorem execSolveJobCompletion_moves {s t : State} (he : execSolveJobCompletion s = .next t) :
    State.Moves .solveJobCompletion s t := by
  unfold execSolveJobCompletion at he
  split at he
  · rename_i j found overtaken hengine
    dsimp only at he
    split_ifs at he with hpass <;> cases he
    · obtain ⟨hgen, hover, hqueued⟩ := (State.jobPasses_iff _ j overtaken).mp hpass
      subst hover
      rw [State.applyJob_eq]
      split_ifs with hlast
      · refine .single (.finishJob j found false rfl hengine hgen hqueued ?_)
        simpa using hlast
      · refine ((State.raise_moves _ j.head .segmentDone).moves (.inl rfl)).head
          (.finishJob j found true rfl hengine hgen hqueued ?_)
        simpa using hlast
    · exact .single (.idle (.inr rfl))
  · cases he; exact .refl

/-! ### Every command -/

/-- Every command is a sequence of its moves. -/
theorem exec_moves {c : Instr} {s t : State} (he : exec c s = .next t) : State.Moves c s t := by
  have hpass {d : Instr} (hd : laneOf d = none) (n : Nat) {u : State} (hm : State.Moves d (s.elapse n) u) :
      State.Moves d s u := hm.head (.elapse n hd)
  cases c with
  | powerOn => cases he; exact .single (.powerOn rfl)
  | syncAcquisition => exact execSyncAcquisition_moves he
  | patternLinkLoss => exact execPatternLinkLoss_moves he
  | burst => exact execBurst_moves he
  | requestFrame => exact execRequestFrame_moves he
  | malformedFrame => exact execMalformedFrame_moves he
  | frameCheckFailure => exact execFrameCheckFailure_moves he
  | upstreamSend => exact execUpstreamSend_moves he
  | unknownRequestCode =>
    cases he
    exact State.execute_reply_moves rfl rfl s _ _ _
  | deviceStatus =>
    cases he
    exact State.execute_reply_moves rfl rfl s _ _ _
  | deviceReset =>
    cases he
    exact State.execute_moves rfl rfl s _ _ fun r u hexec _ _ => .single (.deviceReset r rfl hexec)
  | headStart =>
    cases he
    refine State.execute_moves rfl rfl s _ _ fun r u _ _ hacc => ?_
    have hstate : (u.head r.head).state = .offline := by simpa [RequestForm.accepted] using hacc
    exact (State.startHead_moves hstate).trans (State.reply_moves rfl rfl _ _ _)
  | headReset =>
    cases he
    exact State.execute_moves rfl rfl s _ _ fun r u _ _ _ =>
      (State.resetHead_moves u _).trans (State.reply_moves rfl rfl _ _ _)
  | headSetup => cases he; exact State.execute_moves rfl rfl s _ _ fun r u _ _ _ => State.setup_moves u r
  | headCommit =>
    cases he
    refine State.execute_moves rfl rfl s _ _ fun r u _ _ hacc => State.commit_moves ?_
    simpa [RequestForm.accepted] using hacc
  | headRelease =>
    cases he
    refine State.execute_moves rfl rfl s _ _ fun r u _ _ hacc => ?_
    have hstate : (u.head r.head).state = .ready := by simpa [RequestForm.accepted] using hacc
    exact State.updHead_reply_moves rfl rfl u _ _
      (.goTo .config (by simp [hstate]) (by simp) (by simp [hstate, HeadState.collecting])) _ _
  | headStatus =>
    cases he
    exact State.execute_reply_moves rfl rfl s _ _ _
  | tableWriteGeometry =>
    cases he
    exact State.execute_moves rfl rfl s _ _ fun r u _ _ _ => State.writeGeometry_moves u r
  | tableWriteWindow =>
    cases he
    exact State.execute_moves rfl rfl s _ _ fun r u _ _ _ =>
      State.updHead_reply_moves rfl rfl u _ _ (.tweak {}) _ _
  | tableWriteMarker =>
    cases he
    exact State.execute_moves rfl rfl s _ _ fun r u _ _ _ => State.writeMarker_moves u r
  | tableWriteLatencyClass =>
    cases he
    exact State.execute_moves rfl rfl s _ _ fun r u _ _ _ =>
      (State.reply_moves rfl rfl _ _ _).head (.tables rfl u u.markers _)
  | tableWriteSiteLimits =>
    cases he
    exact State.execute_moves rfl rfl s _ _ fun r u _ _ _ =>
      State.updHead_reply_moves rfl rfl u _ _ 
        (.tweak ((u.head r.head).tweak_updSite _ (f := fun st =>
          { st with failLimit := r.num 3 2, logEnable := r.flag 5 }) (fun _ => rfl) (fun _ => rfl))) _ _
  | tableReadGeometry =>
    cases he
    exact State.execute_reply_moves rfl rfl s _ _ _
  | tableReadWindow =>
    cases he
    exact State.execute_reply_moves rfl rfl s _ _ _
  | tableReadMarker =>
    cases he
    exact State.execute_reply_moves rfl rfl s _ _ _
  | tableReadLatencyClass =>
    cases he
    exact State.execute_reply_moves rfl rfl s _ _ _
  | tableReadSiteLimits =>
    cases he
    exact State.execute_reply_moves rfl rfl s _ _ _
  | tableReadBlockRecord =>
    cases he
    exact State.execute_reply_moves rfl rfl s _ _ _
  | setSites => cases he; exact State.execute_moves rfl rfl s _ _ fun r u _ _ _ => State.setSites_moves u r
  | segmentOpen =>
    cases he
    refine State.execute_moves rfl rfl s _ _ fun r u _ _ hacc => ?_
    have hstate : (u.head r.head).state = .ready := by simpa [RequestForm.accepted] using hacc
    exact (State.reply_moves rfl rfl _ _ _).head (.openSegment r.head rfl hstate)
  | segmentClose =>
    cases he
    refine State.execute_moves rfl rfl s _ _ fun r u _ _ hacc => ?_
    have hstate : (u.head r.head).state = .testing := by simpa [RequestForm.accepted] using hacc
    exact ((State.closeSegment_moves hstate).moves (.inl rfl)).trans (State.reply_moves rfl rfl _ _ _)
  | stopSite => cases he; exact State.execute_moves rfl rfl s _ _ fun r u _ _ _ => State.stopRequest_moves u r
  | verdictRead =>
    cases he
    exact State.execute_reply_moves rfl rfl s _ _ _
  | repairRead =>
    cases he
    exact State.execute_reply_moves rfl rfl s _ _ _
  | logRead => cases he; exact State.execute_moves rfl rfl s _ _ fun r u _ _ _ => State.readLog_moves u r
  | eventClear =>
    cases he
    exact State.execute_moves rfl rfl s _ _ fun r u _ _ _ =>
      State.updHead_reply_moves rfl rfl u _ _ (.tweak {}) _ _
  | eventMask => cases he; exact State.execute_moves rfl rfl s _ _ fun r u _ _ _ => State.writeMask_moves u r
  | maintAccess =>
    cases he
    exact State.execute_moves rfl rfl s _ _ fun r u hexec hlink hacc => State.startAccess_moves hexec hlink hacc
  | headBurstSend => exact execHeadBurstSend_moves he
  | maintSend => exact execMaintSend_moves he
  | probeSend => exact execProbeSend_moves he
  | burstTransmitEnd => exact execBurstTransmitEnd_moves he
  | echo => exact hpass rfl _ ((execEcho_moves he).moves (.inl rfl))
  | roundTripTimeout =>
    rcases execRoundTripTimeout_moves he with rfl | ⟨n, -, -, hm⟩
    · exact .refl
    · exact hpass rfl _ (hm.moves (.inl rfl))
  | maintAnswer => exact (execMaintAnswer_moves he).moves (.inr rfl)
  | proxyTimeout =>
    rcases execProxyTimeout_moves he with rfl | ⟨a, -, hm⟩
    · exact .refl
    · exact hpass rfl _ (hm.moves (.inl rfl))
  | supplyGoodFall => exact (execSupplyGoodFall_moves he).moves (.inr rfl)
  | supplyGoodRise => exact (execSupplyGoodRise_moves he).moves (.inr rfl)
  | fenceTimerExpiry =>
    rcases execFenceTimerExpiry_moves he with rfl | ⟨n, -, -, rfl⟩
    · exact .refl
    · exact hpass rfl _ (State.fence_moves _ _)
  | laneSignalLoss => exact execLaneSignalLoss_moves he
  | laneSignalReturn => exact (execLaneSignalReturn_moves he).moves (.inr rfl)
  | unknownUnitDiscard => cases he; exact .refl
  | resultRecord => exact (execResultRecord_moves he).moves rfl rfl
  | trackingExpiry =>
    rcases execTrackingExpiry_moves he with rfl | ⟨n, -, rfl⟩
    · exact .refl
    · exact hpass rfl _ ((State.settleDeadlines_moves _ _).moves (.inl rfl))
  | failEntryAdmit => cases he; exact (State.intake_moves s _).moves rfl rfl
  | itemTake => exact execItemTake_moves he
  | itemCompletion => exact execItemCompletion_moves he
  | solveJobTake => exact execSolveJobTake_moves he
  | solveJobCompletion => exact execSolveJobCompletion_moves he
  | failEntryArrival => exact (execFailEntryArrival_moves he).moves rfl rfl

/-- A step is a command's sequence of moves, from the state without the command in front (log entry 1). -/
theorem step_moves {s t : State} (he : step s = .next t) : ∃ c p, State.Moves c { s with pending := p } t := by
  unfold step at he
  split at he
  · cases he
    exact ⟨.powerOn, s.pending, .single (.elapse 1 rfl)⟩
  · exact ⟨_, _, exec_moves he⟩

/-- What every move of a command keeps, the command's whole sequence of moves keeps. -/
theorem State.Moves.keeps {c : Instr} {P : State → Prop} (hmove : ∀ s t, State.Move c s t → P s → P t) {s t : State}
    (hm : State.Moves c s t) (hs : P s) : P t := by
  induction hm with
  | refl => exact hs
  | tail _ hstep ih => exact hmove _ _ hstep ih

end Sys2Proof.Machine
end

section
/-! What every step keeps of the Pattern Link (1.2 to 1.6). -/

namespace Sys2Proof.Machine

/-! ### The closing actions (R31) -/

theorem State.close_frame (s : State) (h : HeadId) (loss : Option LossCause) :
    s.close h loss = { s with
      heads := (s.close h loss).heads, upstream := (s.close h loss).upstream
      reservations := (s.close h loss).reservations
      analysis := s.analysis.filter (fun it => it.head != h)
      solveList := s.solveList.filter (fun j => j.head != h), engine := s.engine.overtake h } := by
  unfold State.close
  dsimp only
  rw [State.endAccess_frame]
  cases loss <;> rfl

/-- What a closing adds to the Upstream Queue, and the reservation that it takes for it (R12, R31). -/
theorem State.endAccess_aborted (s : State) (h : HeadId) :
    (s.endAccess h .aborted .empty).upstream = s.upstream ++ s.abortedFor h
      ∧ (s.endAccess h .aborted .empty).reservations
        = if s.abortedFor h = [] then s.reservations else s.reservations.erase h := by
  unfold State.endAccess State.abortedFor
  cases (s.head h).slot with
  | none => exact ⟨(List.append_nil _).symm, (if_pos rfl).symm⟩
  | some a =>
    unfold State.deferredReply
    obtain ⟨origin, -, -, -, -, -, -, wanted⟩ := a
    cases origin with
    | profileRead => exact ⟨(List.append_nil _).symm, (if_pos rfl).symm⟩
    | mainframe id code =>
      simp only [State.updHead_reservations, State.updHead_link]
      by_cases hw : wanted = true ∧ h ∈ s.reservations ∧ s.link = .inSync
      · simp only [hw, and_self, if_true, List.cons_ne_nil, if_false, State.updHead_upstream]
      · simp only [eq_false hw, if_false, if_true, List.append_nil, State.updHead_upstream, State.updHead_reservations,
          and_self]

theorem Head.slot_clearQueues (hd : Head) : hd.clearQueues.slot = hd.slot := rfl

/-- The reply of a closing reads the slot, the reservations and the link alone. -/
theorem State.abortedFor_congr {s t : State} {h : HeadId} (hslot : (t.head h).slot = (s.head h).slot)
    (hres : t.reservations = s.reservations) (hlink : t.link = s.link) : t.abortedFor h = s.abortedFor h := by
  simp only [State.abortedFor, hslot, hres, hlink]

theorem State.close_upstream (s : State) (h : HeadId) (loss : Option LossCause) :
    (s.close h loss).upstream = s.upstream ++ s.abortedFor h
      ∧ (s.close h loss).reservations
        = if s.abortedFor h = [] then s.reservations else s.reservations.erase h := by
  have haborted : ((s.bumpGeneration h).updHead h Head.clearQueues).abortedFor h = s.abortedFor h := by
    refine State.abortedFor_congr (s := s) ?_ rfl rfl
    rw [State.head_updHead_self, Head.slot_clearQueues]
    have hslot := congrArg Head.slot (State.head_updHead_self s h (fun hd => { hd with generation := hd.generation + 1 }))
    exact hslot
  have hend := ((s.bumpGeneration h).updHead h Head.clearQueues).endAccess_aborted h
  rw [haborted] at hend
  unfold State.close
  cases loss <;> exact hend

theorem State.mem_of_abortedFor {s : State} {h : HeadId} (ha : s.abortedFor h ≠ []) :
    h ∈ s.reservations ∧ s.link = .inSync ∧ (s.abortedFor h).length = 1 := by
  unfold State.abortedFor at ha ⊢
  split at ha
  · cases ha rfl
  · split at ha
    · cases ha rfl
    · split_ifs at ha with hw
      · exact ⟨hw.2.1, hw.2.2, by simp [hw]⟩
      · cases ha rfl

/-! ### The link's part of the moves -/

/-- A reply in place of a reservation leaves the number of slots in use as it is. -/
theorem State.LinkMid.swap {s t : State} {h : HeadId} (hs : s.LinkMid) (hmem : h ∈ s.reservations)
    (hlink : s.link = .inSync) (x : UpFrame)
    (hframe : t.link = s.link ∧ t.failureRun = s.failureRun ∧ t.crcDiscards = s.crcDiscards
      ∧ t.requestDrops = s.requestDrops ∧ t.requests = s.requests ∧ t.executing = s.executing)
    (hup : t.upstream = s.upstream ++ [x]) (hres : t.reservations = s.reservations.erase h) : t.LinkMid := by
  obtain ⟨h1, h2, h3, h4, h5, h6, -⟩ := hs
  obtain ⟨el, ef, ec, ed, er, ee⟩ := hframe
  have hpos := List.length_pos_of_mem hmem
  refine ⟨er ▸ h1, ?_, hres ▸ h3.erase h, ef ▸ h4, ec ▸ h5, ed ▸ h6, fun ho => ?_⟩
  · rw [hup, hres, ee, List.length_append, List.length_erase_of_mem hmem, List.length_singleton]
    omega
  · rw [el, hlink] at ho
    cases ho

/-- The link's invariant reads the link's part of the state alone. -/
theorem State.LinkMid.of_frame {s t : State} (hs : s.LinkMid)
    (hframe : t.link = s.link ∧ t.failureRun = s.failureRun ∧ t.expected = s.expected ∧ t.crcDiscards = s.crcDiscards
      ∧ t.requestDrops = s.requestDrops ∧ t.requests = s.requests ∧ t.executing = s.executing
      ∧ t.upstream = s.upstream ∧ t.reservations = s.reservations) : t.LinkMid := by
  obtain ⟨e1, e2, e3, e4, e5, e6, e7, e8, e9⟩ := hframe
  obtain ⟨h1, h2, h3, h4, h5, h6, h7⟩ := hs
  exact ⟨by rwa [e6], by rwa [e8, e9, e7], by rwa [e9], by rwa [e2], by rwa [e4], by rwa [e5], by
    rwa [e1, e6, e8, e9, e2, e3, e7]⟩

theorem State.LinkMid.endAccess {s : State} (hs : s.LinkMid) (h : HeadId) (st : Status) (body : ReplyBody) :
    (s.endAccess h st body).LinkMid := by
  unfold State.endAccess
  split
  · exact hs
  · rename_i a ha
    have hslot : (s.updHead h (fun hd => { hd with slot := none })).LinkMid := hs.of_frame (by simp)
    unfold State.deferredReply
    split
    · exact hslot
    · split_ifs with hw
      · obtain ⟨-, hmem, hlink⟩ := hw
        exact hslot.swap hmem hlink _ (by simp) rfl rfl
      · exact hslot

theorem State.LinkMid.close {s : State} (hs : s.LinkMid) (h : HeadId) (loss : Option LossCause) :
    (s.close h loss).LinkMid := by
  have hframe := s.close_frame h loss
  obtain ⟨hup, hres⟩ := s.close_upstream h loss
  by_cases ha : s.abortedFor h = []
  · rw [ha, List.append_nil] at hup
    rw [if_pos ha] at hres
    refine hs.of_frame ⟨?_, ?_, ?_, ?_, ?_, ?_, ?_, hup, hres⟩ <;> rw [hframe]
  · obtain ⟨hmem, hlink, hlen⟩ := State.mem_of_abortedFor ha
    obtain ⟨x, hx⟩ := List.length_eq_one_iff.mp hlen
    rw [if_neg ha] at hres
    refine hs.swap hmem hlink x ⟨?_, ?_, ?_, ?_, ?_, ?_⟩ (hx ▸ hup) hres <;> rw [hframe]

theorem State.LaneMove.linkMid {h : HeadId} {s t : State} (hm : State.LaneMove h s t) (hs : s.LinkMid) : t.LinkMid := by
  cases hm with
  | notice n hlink hfree =>
    obtain ⟨h1, h2, h3, h4, h5, h6, -⟩ := hs
    refine ⟨h1, ?_, h3, h4, h5, h6, fun ho => by cases hlink.symm.trans ho⟩
    simp only [State.freeSlots] at hfree
    rw [List.length_append, List.length_singleton]
    show s.upstream.length + 1 + s.reservations.length + (if s.executing.isSome then 1 else 0) ≤ _
    omega
  | endAccess => exact hs.endAccess _ _ _
  | head => exact hs.of_frame (by simp)
  | free => exact hs.of_frame (by simp)
  | enqueue => exact hs.of_frame (by simp)
  | drain => exact hs.of_frame (by simp [State.drainedState])

theorem length_abortedReply_le (s : State) (h : HeadId) : (s.abortedReply h).length ≤ 1 := by
  unfold State.abortedReply
  split
  · exact Nat.zero_le _
  · split
    · exact Nat.zero_le _
    · split_ifs <;> simp

theorem State.Move.linkMid {c : Instr} {s t : State} (hm : State.Move c s t) (hs : s.LinkMid)
    (hexec : requestFormOf c = none → s.executing = none) : t.LinkMid := by
  cases hm with
  | lane h _ hm => exact hm.linkMid hs
  | buffer h _ _ hm => cases hm; exact hs.of_frame (by simp)
  | lost h _ hm =>
    cases hm with
    | mk k f c x =>
      have hclosed : ((s.updHead h k).close h (some c)).LinkMid := State.LinkMid.close (hs.of_frame (by simp)) h _
      exact hclosed.of_frame (by simp)
  | headReset h => exact (hs.close h none).of_frame (by simp)
  | elapse => exact hs.of_frame (by simp)
  | shared _ _ _ _ hlink => exact hlink hs
  | openSegment h => exact hs.of_frame (by simp [State.bumpGeneration])
  | reserve h a _ hr hlink =>
    obtain ⟨h1, h2, h3, h4, h5, h6, -⟩ := hs
    rw [if_pos hr] at h2
    refine ⟨h1, ?_, ?_, h4, h5, h6, fun ho => by cases hlink.symm.trans ho⟩
    · have hlen : (if h ∈ s.reservations then s.reservations else s.reservations ++ [h]).length
          ≤ s.reservations.length + 1 := by split_ifs <;> simp
      show s.upstream.length + (if h ∈ s.reservations then s.reservations else s.reservations ++ [h]).length + 0 ≤ _
      omega
    · show (if h ∈ s.reservations then s.reservations else s.reservations ++ [h]).Nodup
      split_ifs with hmem
      · exact h3
      · simpa using h3.concat hmem
  | takeItem => exact hs.of_frame (by simp)
  | dropItem => exact hs.of_frame (by simp)
  | takeJob => exact hs.of_frame (by simp)
  | idle => exact hs.of_frame (by simp)
  | finishJob => exact hs.of_frame (by simp)
  | linkLoss hc =>
    have hnone := hexec hc.2
    refine ⟨Nat.zero_le _, ?_, List.nodup_nil, Nat.zero_lt_succ _, hs.crcDiscards, hs.requestDrops,
      fun _ => ⟨rfl, rfl, rfl, rfl, rfl, hnone⟩⟩
    show 0 + 0 + (if s.executing.isSome then 1 else 0) ≤ _
    rw [hnone]
    exact Nat.zero_le _
  | powerOn =>
    exact ⟨Nat.zero_le _, Nat.zero_le _, List.nodup_nil, Nat.zero_lt_succ _, Nat.zero_le _, Nat.zero_le _,
      fun _ => ⟨rfl, rfl, rfl, rfl, rfl, rfl⟩⟩
  | deviceReset r _ hr =>
    refine ⟨Nat.zero_le _, ?_, List.nodup_nil, Nat.zero_lt_succ _, Nat.zero_le _, Nat.zero_le _, fun ho => ?_⟩
    · have h0 := length_abortedReply_le s 0
      have h1 := length_abortedReply_le s 1
      have h2 := length_abortedReply_le s 2
      have h3 := length_abortedReply_le s 3
      simp [State.deviceReset, State.reset, allFin, List.ofFn_succ, Config.upstreamQueueSize]
      omega
    · have hnone := (hs.outOfSync ho).2.2.2.2.2
      rw [hr] at hnone
      cases hnone

/-! ### Requests under execution (R8) -/

/-- Outside the Request Executor no command takes a request. -/
theorem State.Move.executing {c : Instr} {s t : State} (hm : State.Move c s t) (hc : requestFormOf c = none)
    (hs : s.executing = none) : t.executing = none := by
  suffices h : t.executing = s.executing ∨ t.executing = none by
    obtain h | h := h
    exacts [h.trans hs, h]
  cases hm with
  | lane h _ hm => rw [hm.frame]; exact .inl rfl
  | buffer h _ _ hm => cases hm; exact .inl rfl
  | lost h _ hm => cases hm; rw [State.updHead_executing, State.close_frame]; exact .inl rfl
  | headReset h hr => subst hr; cases hc
  | shared _ _ hexec => exact .inl (hexec hc)
  | reserve h a hr => subst hr; cases hc
  | powerOn => exact .inr rfl
  | deviceReset r hr => subst hr; cases hc
  | _ => exact .inl rfl

theorem State.reply_executing (s : State) (st : Status) (body : ReplyBody) : (s.reply st body).executing = none := by
  unfold State.reply
  split
  · assumption
  · rfl

/-- Every command of the Request Executor is an owner's action on the request in front, which ends the execution (R8). -/
theorem exec_request {c : Instr} {form : RequestForm} (hc : requestFormOf c = some form) :
    ∃ act : Request → State → State, (∀ s, exec c s = .next (s.execute form act)) ∧ ∀ r u, (act r u).executing = none := by
  cases c <;> cases hc <;> refine ⟨_, fun _ => rfl, fun r u => ?_⟩
  case deviceReset => rfl
  case headSetup => unfold State.setup; split <;> exact State.reply_executing ..
  case headCommit => unfold State.commit; split <;> exact State.reply_executing ..
  case tableWriteGeometry => unfold State.writeGeometry; split <;> exact State.reply_executing ..
  case tableWriteMarker => unfold State.writeMarker; split <;> exact State.reply_executing ..
  case stopSite => unfold State.stopRequest; split <;> exact State.reply_executing ..
  case maintAccess =>
    unfold State.startAccess
    dsimp only
    split_ifs
    exacts [State.reply_executing .., State.reply_executing .., rfl]
  all_goals exact State.reply_executing ..

/-- No request stays under execution from one command to the next (R8). -/
theorem exec_executing {c : Instr} {s t : State} (he : exec c s = .next t) (hs : s.executing = none) :
    t.executing = none := by
  cases hc : requestFormOf c with
  | none => exact (exec_moves he).keeps (P := fun u => u.executing = none) (fun _ _ hm => hm.executing hc) hs
  | some form =>
    obtain ⟨act, hexec, hact⟩ := exec_request hc
    rw [hexec] at he
    cases he
    rcases s.execute_cases form act with heq | ⟨r, rest, -, -, -, ⟨st, heq⟩ | ⟨-, heq⟩⟩
    · rwa [heq]
    · rw [heq]
      exact State.reply_executing ..
    · rw [heq]
      exact hact ..

/-- The link's invariant within a command, with no request under execution outside the Request Executor. -/
def State.LinkRun (c : Instr) (s : State) : Prop := s.LinkMid ∧ (requestFormOf c = none → s.executing = none)

theorem State.LinkRun.move {c : Instr} {s t : State} (hm : State.Move c s t) (hs : s.LinkRun c) : t.LinkRun c :=
  ⟨hm.linkMid hs.1 hs.2, fun hc => hm.executing hc (hs.2 hc)⟩

theorem State.LinkInv.linkRun {s : State} (hs : s.LinkInv) (c : Instr) : s.LinkRun c :=
  have hmid := s.linkInv_iff.mp hs
  ⟨hmid.1, fun _ => hmid.2⟩

theorem exec_linkInv {c : Instr} {s t : State} (he : exec c s = .next t) (hs : s.LinkInv) : t.LinkInv :=
  t.linkInv_iff.mpr ⟨((exec_moves he).keeps (P := State.LinkRun c) (fun _ _ => State.LinkRun.move) (hs.linkRun c)).1,
    exec_executing he hs.executing⟩

/-- What every command and the passing of a quantum keep, every step keeps. -/
theorem step_keeps_of_exec {P : State → Prop} (hp : ∀ s p, P s → P { s with pending := p })
    (hpass : ∀ s, P s → P (s.elapse 1)) (hexec : ∀ c s t, exec c s = .next t → P s → P t) {s t : State} (hs : P s)
    (he : step s = .next t) : P t := by
  unfold step at he
  split at he
  · cases he
    exact hpass s hs
  · exact hexec _ _ _ he (hp s _ hs)

/-- Settles O52, by the moves of the commands: each keeps the link's invariant, and a request's reply or reservation
takes the slot that was free when it was taken. -/
theorem stepKeepsTheLinkInvariant : Obligations.StepKeepsTheLinkInvariant := by
  intro s t hs he
  refine step_keeps_of_exec (P := State.LinkInv) (fun _ _ h => ⟨h.1, h.2, h.3, h.4, h.5, h.6, h.7, h.8⟩)
    (fun s h => ?_) (fun _ _ _ he h => exec_linkInv he h) hs he
  exact ⟨h.1, h.2, h.3, h.4, h.5, h.6, h.7, h.8⟩

end Sys2Proof.Machine
end

section
/-! What every step keeps of the life of the heads (chapters 2 and 3). -/

namespace Sys2Proof.Machine

/-! ### One head -/

/-- The head's proxy slot holds an access whose reply is wanted (R12). -/
def Head.wants (hd : Head) : Prop := ∃ a, hd.slot = some a ∧ a.replyWanted = true

/-- What the shared blocks hold for a head stays right: its generation, SOLVING, and the reply it waits for. -/
structure Head.SameClaims (hd hd' : Head) : Prop where
  generation : hd'.generation = hd.generation := by rfl
  solving : hd.state = .solving → hd'.state = .solving := by exact id
  wants : hd'.wants ↔ hd.wants := by exact Iff.rfl

theorem Head.Tweak.slot_some {hd hd' : Head} (ht : hd.Tweak hd') {a' : Access} (ha : hd'.slot = some a') :
    ∃ a, hd.slot = some a ∧ a.origin = a'.origin ∧ a.replyWanted = a'.replyWanted := by
  have hslot := ht.slot
  rw [ha] at hslot
  obtain ⟨a, ha, heq⟩ := Option.map_eq_some_iff.mp hslot.symm
  exact ⟨a, ha, (Prod.mk.inj heq).1, (Prod.mk.inj heq).2⟩

theorem Head.Tweak.wants_iff {hd hd' : Head} (ht : hd.Tweak hd') : hd'.wants ↔ hd.wants := by
  have hmap (k : Head) : k.wants ↔ ∃ o, k.slot.map (fun a => (a.origin, a.replyWanted)) = some (o, true) := by
    simp [Head.wants]
  rw [hmap, hmap, ht.slot]

theorem Retimed.eq_nil {held : Bool} {q q' : List TrackEntry} (hq : Retimed held q q') (hn : q = []) : q' = [] := by
  subst hn
  exact List.forall₂_nil_left_iff.mp hq

theorem Head.Tweak.life {hd hd' : Head} (ht : hd.Tweak hd') (hl : hd.LifeInv) : hd'.LifeInv where
  phase := by rw [ht.phase, ht.state]; exact hl.phase
  profileRead a' ha horigin := by
    obtain ⟨a, hslot, ho, hw⟩ := ht.slot_some ha
    rw [ht.state, ← hw]
    exact hl.profileRead a hslot (ho.trans horigin)
  mainframe a' ha horigin := by
    obtain ⟨a, hslot, ho, -⟩ := ht.slot_some ha
    rw [ht.state]
    exact hl.mainframe a hslot (ho ▸ horigin)
  tracking hc := ht.tracking.eq_nil (hl.tracking (ht.state ▸ hc))
  fenceTimer := by rw [ht.fenceTimer, ht.state, ht.supplyGood]; exact hl.fenceTimer
  laneSignal hm := by rw [ht.laneSignal]; exact hl.laneSignal (ht.state ▸ hm)

theorem Head.Tweak.sameClaims {hd hd' : Head} (ht : hd.Tweak hd') : hd.SameClaims hd' :=
  ⟨ht.generation, fun h => ht.state.trans h, ht.wants_iff⟩

theorem Head.LifeInv.not_wants_of_training {hd : Head} (hl : hd.LifeInv) (ht : hd.state = .training) : ¬ hd.wants := by
  rintro ⟨a, ha, hw⟩
  by_cases ho : a.origin = .profileRead
  · exact absurd hw (by simp [(hl.profileRead a ha ho).2])
  · exact (hl.mainframe a ha ho).2.1 ht

theorem Head.state_of_hunting {hd : Head} (hh : hd.hunting = true) : hd.state = .training := by
  simp only [Head.hunting, Bool.and_eq_true, beq_iff_eq] at hh
  exact hh.1

theorem matchTag_nil_ne {tag : Byte} {m : Matched} : matchTag tag [] ≠ some m := by simp [matchTag]

/-- A head whose tracking queue alone has changed, and is empty if it was. -/
theorem Head.LifeInv.set_tracking {hd : Head} (hl : hd.LifeInv) {q : List TrackEntry} (hq : hd.tracking = [] → q = []) :
    { hd with tracking := q }.LifeInv :=
  ⟨hl.phase, hl.profileRead, hl.mainframe, fun hc => hq (hl.tracking hc), hl.fenceTimer, hl.laneSignal⟩

/-- The life of a head that is out of use: OFFLINE or FENCED, with nothing under way. -/
theorem Head.LifeInv.of_closed {hd : Head} (hstate : hd.state.monitored = false) (hphase : hd.phase = none)
    (hslot : hd.slot = none) (htracking : hd.tracking = []) (hfence : hd.fenceTimer = none) : hd.LifeInv where
  phase := by
    rw [hphase]
    constructor
    · intro h; cases h
    · intro h; rw [h] at hstate; cases hstate
  profileRead a ha := by rw [hslot] at ha; cases ha
  mainframe a ha := by rw [hslot] at ha; cases ha
  tracking _ := htracking
  fenceTimer := by simp [hfence, hstate]
  laneSignal hm := by rw [hstate] at hm; cases hm

theorem Head.LifeInv.fence_training {hd : Head} (hl : hd.LifeInv) (ht : hd.state.monitored = true) :
    hd.fenceTimer.isSome = true ↔ hd.supplyGood = false := by simp [hl.fenceTimer, ht]

theorem Head.Step.life {hd hd' : Head} (hm : hd.Step hd') (hl : hd.LifeInv) : hd'.LifeInv ∧ hd.SameClaims hd' := by
  cases hm with
  | tweak ht => exact ⟨ht.life hl, ht.sameClaims⟩
  | place b hstate =>
    exact ⟨⟨hl.phase, hl.profileRead, hl.mainframe, fun hc => absurd hc (by simp [Head.place, hstate, HeadState.collecting]),
      hl.fenceTimer, hl.laneSignal⟩, {}⟩
  | expire => exact ⟨hl.set_tracking fun hn => by rw [hn]; rfl, {}⟩
  | unmatch tag m hm => exact ⟨hl.set_tracking fun hn => absurd (hn ▸ hm) matchTag_nil_ne, {}⟩
  | goTo x hold hnew htrack =>
    obtain ⟨ho1, ho2, ho3, ho4⟩ := hold
    obtain ⟨hn1, hn2, hn3, hn4⟩ := hnew
    have hmon : hd.state.monitored = true ∧ x.monitored = true := by
      constructor
      · cases hs : hd.state <;> simp_all [HeadState.monitored]
      · cases x <;> simp_all [HeadState.monitored]
    refine ⟨⟨?_, fun a ha ho => absurd (hl.profileRead a ha ho).1 ho2, fun a _ _ => ⟨hn1, hn2, hn3⟩,
      fun hc => hl.tracking (htrack hc), ?_, fun _ => hl.laneSignal hmon.1⟩, ⟨rfl, fun h => absurd h ho4, Iff.rfl⟩⟩
    · exact hl.phase.trans (iff_of_false ho2 hn2)
    · simp only [hl.fenceTimer, hmon]
  | stop i why => exact ⟨⟨hl.phase, hl.profileRead, hl.mainframe, hl.tracking, hl.fenceTimer, hl.laneSignal⟩, {}⟩
  | process i b it hb => exact ⟨⟨hl.phase, hl.profileRead, hl.mainframe, hl.tracking, hl.fenceTimer, hl.laneSignal⟩, {}⟩
  | geometry g => exact ⟨⟨hl.phase, hl.profileRead, hl.mainframe, hl.tracking, hl.fenceTimer, hl.laneSignal⟩, {}⟩
  | start hstate hsignal =>
    have hslot (a : Access) (ha : hd.slot = some a) : False := by
      by_cases ho : a.origin = .profileRead
      · exact absurd (hl.profileRead a ha ho).1 (by simp [hstate])
      · exact (hl.mainframe a ha ho).1 hstate
    refine ⟨⟨by simp [Head.start], fun a ha => (hslot a ha).elim, fun a ha => (hslot a ha).elim, fun _ => ?_, ?_,
      fun _ => hsignal⟩, ⟨rfl, fun h => ?_, Iff.rfl⟩⟩
    · exact hl.tracking (by simp [hstate, HeadState.collecting])
    · cases hgood : hd.supplyGood <;> simp [Head.start, hgood, HeadState.monitored]
    · rw [hstate] at h; cases h
  | enterProfile measured i window hhunt =>
    have htraining := Head.state_of_hunting hhunt
    refine ⟨⟨by simp [Head.enterProfile, htraining], ?_, ?_, hl.tracking, hl.fenceTimer, hl.laneSignal⟩,
      ⟨rfl, id, iff_of_false ?_ (hl.not_wants_of_training htraining)⟩⟩
    · rintro a ⟨⟩ -
      exact ⟨htraining, rfl⟩
    · rintro a ⟨⟩ ho
      exact absurd rfl ho
    · rintro ⟨a, ⟨⟩, hw⟩
      cases hw
  | failTraining why htraining =>
    have ht : hd.state = .training := by
      rcases htraining with hh | ⟨a, ha, ho⟩
      · exact Head.state_of_hunting hh
      · exact (hl.profileRead a ha ho).1
    refine ⟨.of_closed rfl rfl rfl (hl.tracking (by simp [ht, HeadState.collecting])) rfl,
      ⟨rfl, fun h => ?_, iff_of_false ?_ (hl.not_wants_of_training ht)⟩⟩
    · rw [ht] at h; cases h
    · rintro ⟨a, ⟨⟩, -⟩
  | acceptProfile p hslot =>
    obtain ⟨a, ha, ho⟩ := hslot
    have ht := (hl.profileRead a ha ho).1
    have hmon : hd.state.monitored = true := by simp [ht, HeadState.monitored]
    refine ⟨⟨by simp [Head.acceptProfile], ?_, ?_, fun _ => ?_, ?_, fun _ => hl.laneSignal hmon⟩,
      ⟨rfl, fun h => ?_, iff_of_false ?_ (hl.not_wants_of_training ht)⟩⟩
    · rintro a ⟨⟩
    · rintro a ⟨⟩
    · exact hl.tracking (by simp [ht, HeadState.collecting])
    · have := hl.fence_training hmon
      simpa [Head.acceptProfile, HeadState.monitored] using this
    · rw [ht] at h; cases h
    · rintro ⟨a, ⟨⟩, -⟩
  | supplyFall =>
    refine ⟨⟨hl.phase, hl.profileRead, hl.mainframe, hl.tracking, ?_, hl.laneSignal⟩, {}⟩
    have hf := hl.fenceTimer
    cases hmon : hd.state.monitored <;> simp_all
  | supplyRise =>
    exact ⟨⟨hl.phase, hl.profileRead, hl.mainframe, hl.tracking, by simp, hl.laneSignal⟩, {}⟩
  | signal x hx =>
    refine ⟨⟨hl.phase, hl.profileRead, hl.mainframe, hl.tracking, hl.fenceTimer, fun hm => ?_⟩, {}⟩
    cases x with
    | true => rfl
    | false => exact absurd hm (by simp [hx rfl])

theorem Head.BufferStep.life {hd hd' : Head} (hm : hd.BufferStep hd') (hl : hd.LifeInv) :
    hd'.LifeInv ∧ hd.SameClaims hd' := by
  cases hm with
  | reception => exact ⟨⟨hl.phase, hl.profileRead, hl.mainframe, hl.tracking, hl.fenceTimer, hl.laneSignal⟩, {}⟩
  | accept tag m secs hm =>
    have hq := hl.set_tracking (q := m.answered ++ { m.entry with deadline := .answered } :: m.later)
      fun hn => absurd (hn ▸ hm) matchTag_nil_ne
    exact ⟨⟨hq.phase, hq.profileRead, hq.mainframe, hq.tracking, hq.fenceTimer, hq.laneSignal⟩, {}⟩
  | complete =>
    have hq := hl.set_tracking (q := dropFirstAnswered hd.tracking) fun hn => by rw [hn]; rfl
    exact ⟨⟨hq.phase, hq.profileRead, hq.mainframe, hq.tracking, hq.fenceTimer, hq.laneSignal⟩, {}⟩
  | rebuffer => exact ⟨⟨hl.phase, hl.profileRead, hl.mainframe, hl.tracking, hl.fenceTimer, hl.laneSignal⟩, {}⟩
  | hold =>
    unfold Head.refreshHold
    split
    · exact ⟨hl, {}⟩
    · refine ⟨⟨hl.phase, hl.profileRead, hl.mainframe, fun hc => ?_, hl.fenceTimer, hl.laneSignal⟩, {}⟩
      exact List.map_eq_nil_iff.mpr (hl.tracking hc)

/-! ### The part: the heads, the items and the jobs -/

/-- The life of the heads but for their reservations: items and jobs of a head's current generation, and jobs of heads
in SOLVING. -/
structure State.LifeCore (s : State) : Prop where
  heads : ∀ h, (s.head h).LifeInv
  items : ∀ it ∈ s.analysis, it.generation = (s.head it.head).generation
  item : ∀ it, s.engine = .item it false → it.generation = (s.head it.head).generation
  jobs : ∀ j ∈ s.solveList, j.generation = (s.head j.head).generation ∧ (s.head j.head).state = .solving
  job : ∀ j found, s.engine = .job j found false →
    j.generation = (s.head j.head).generation ∧ (s.head j.head).state = .solving

/-- A reservation is held exactly for the heads that wait for a reply (R12). -/
def State.Reserved (s : State) : Prop := ∀ h, h ∈ s.reservations ↔ (s.head h).wants

theorem State.lifeInv_iff (s : State) : s.LifeInv ↔ s.LifeCore ∧ s.Reserved :=
  ⟨fun ⟨h1, h2, h3, h4, h5, h6⟩ => ⟨⟨h1, h3, h4, h5, h6⟩, h2⟩, fun ⟨⟨h1, h3, h4, h5, h6⟩, h2⟩ => ⟨h1, h2, h3, h4, h5, h6⟩⟩

/-- A property of every head after a change of one of them. -/
theorem State.forall_head_updHead {s : State} {h : HeadId} {f : Head → Head} {p : HeadId → Head → Prop}
    (hself : p h (f (s.head h))) (hne : ∀ k, k ≠ h → p k (s.head k)) (k : HeadId) : p k ((s.updHead h f).head k) := by
  by_cases hk : k = h
  · subst hk
    rwa [State.head_updHead_self]
  · rw [State.head_updHead_ne _ _ hk]
    exact hne k hk

/-- Heads that keep their life, their generation and SOLVING keep the invariant, when the shared parts that speak of
them stay as they are. -/
theorem State.LifeCore.of_heads {s t : State} (hs : s.LifeCore)
    (hheads : ∀ k, (t.head k).LifeInv ∧ (t.head k).generation = (s.head k).generation
      ∧ ((s.head k).state = .solving → (t.head k).state = .solving))
    (hitems : ∀ it ∈ t.analysis, it ∈ s.analysis := by exact fun _ h => h)
    (hjobs : ∀ j ∈ t.solveList, j ∈ s.solveList := by exact fun _ h => h)
    (hengine : t.engine = s.engine ∨ t.engine = .idle := by exact .inl rfl) : t.LifeCore where
  heads k := (hheads k).1
  items it hit := by rw [(hheads _).2.1]; exact hs.items it (hitems it hit)
  item it hit := by
    rw [(hheads _).2.1]
    rcases hengine with he | he
    · exact hs.item it (he ▸ hit)
    · rw [he] at hit; cases hit
  jobs j hj := by
    obtain ⟨hgen, hstate⟩ := hs.jobs j (hjobs j hj)
    exact ⟨by rwa [(hheads _).2.1], (hheads _).2.2 hstate⟩
  job j found hj := by
    rcases hengine with he | he
    · obtain ⟨hgen, hstate⟩ := hs.job j found (he ▸ hj)
      exact ⟨by rwa [(hheads _).2.1], (hheads _).2.2 hstate⟩
    · rw [he] at hj; cases hj

theorem State.LifeCore.updHead {s : State} {h : HeadId} {f : Head → Head} (hs : s.LifeCore)
    (hf : (f (s.head h)).LifeInv ∧ (s.head h).SameClaims (f (s.head h))) : (s.updHead h f).LifeCore :=
  hs.of_heads (State.forall_head_updHead (p := fun k hd => hd.LifeInv ∧ hd.generation = (s.head k).generation
    ∧ ((s.head k).state = .solving → hd.state = .solving)) ⟨hf.1, hf.2.generation, hf.2.solving⟩
    fun k _ => ⟨hs.heads k, rfl, id⟩)

theorem State.deferredReply_heads (s : State) (h : HeadId) (a : Access) (st : Status) (body : ReplyBody) :
    (s.deferredReply h a st body).heads = s.heads := by
  rw [State.deferredReply_frame]

theorem State.head_endAccess_self (s : State) (h : HeadId) (st : Status) (body : ReplyBody) :
    (s.endAccess h st body).head h = { s.head h with slot := none } := by
  unfold State.endAccess
  split
  · rename_i hslot
    rw [← hslot]
  · unfold State.head
    rw [State.deferredReply_heads]
    exact State.head_updHead_self ..

theorem State.onlyHead_endAccess (s : State) (h : HeadId) (st : Status) (body : ReplyBody) :
    s.onlyHead (s.endAccess h st body) h := by
  intro k hk
  unfold State.endAccess
  split
  · rfl
  · unfold State.head
    rw [State.deferredReply_heads]
    exact State.head_updHead_ne _ _ hk

/-- A head whose slot alone has been emptied. -/
theorem Head.LifeInv.no_slot {hd : Head} (hl : hd.LifeInv) : { hd with slot := none }.LifeInv :=
  ⟨hl.phase, by rintro _ ⟨⟩, by rintro _ ⟨⟩, hl.tracking, hl.fenceTimer, hl.laneSignal⟩

theorem State.LifeCore.endAccess {s : State} (hs : s.LifeCore) (h : HeadId) (st : Status) (body : ReplyBody) :
    (s.endAccess h st body).LifeCore := by
  have hframe := s.endAccess_frame h st body
  refine hs.of_heads (fun k => ?_) (fun _ h => by rwa [hframe] at h) (fun _ h => by rwa [hframe] at h)
    (.inl (by rw [hframe]))
  by_cases hk : k = h
  · subst hk
    rw [s.head_endAccess_self]
    exact ⟨(hs.heads k).no_slot, rfl, id⟩
  · rw [s.onlyHead_endAccess h st body k hk]
    exact ⟨hs.heads k, rfl, id⟩

/-- Work of another head that has not been overtaken was not overtaken before either. -/
theorem Engine.item_of_overtake {h : HeadId} {e : Engine} {it : FailItem} (he : e.overtake h = .item it false) :
    e = .item it false ∧ it.head ≠ h := by
  cases e <;> simp [Engine.overtake] at he
  obtain ⟨rfl, rfl, hne⟩ := he
  exact ⟨rfl, hne⟩

theorem Engine.job_of_overtake {h : HeadId} {e : Engine} {j : SolveJob} {found : Option Solution}
    (he : e.overtake h = .job j found false) : e = .job j found false ∧ j.head ≠ h := by
  cases e <;> simp [Engine.overtake] at he
  obtain ⟨rfl, rfl, rfl, hne⟩ := he
  exact ⟨rfl, hne⟩

/-- A head that begins a new generation ends all work made for it, and nothing that speaks of another head changes
(R20). -/
theorem State.LifeCore.new_generation {s t : State} {h : HeadId} (hs : s.LifeCore) (honly : s.onlyHead t h)
    (hself : (t.head h).LifeInv) (hitems : t.analysis = s.analysis.filter (fun it => it.head != h))
    (hjobs : ∀ j ∈ t.solveList, j ∈ s.solveList ∧ j.head ≠ h) (hengine : t.engine = s.engine.overtake h) :
    t.LifeCore where
  heads k := by
    by_cases hk : k = h
    · exact hk ▸ hself
    · rw [honly k hk]
      exact hs.heads k
  items it hit := by
    rw [hitems, List.mem_filter] at hit
    rw [honly _ (by simpa using hit.2)]
    exact hs.items it hit.1
  item it hit := by
    obtain ⟨he, hne⟩ := Engine.item_of_overtake (hengine ▸ hit)
    rw [honly _ hne]
    exact hs.item it he
  jobs j hj := by
    obtain ⟨hmem, hne⟩ := hjobs j hj
    rw [honly _ hne]
    exact hs.jobs j hmem
  job j found hj := by
    obtain ⟨he, hne⟩ := Engine.job_of_overtake (hengine ▸ hj)
    rw [honly _ hne]
    exact hs.job j found he

/-! ### The closing actions (R31) -/

/-- The head after the closing actions, with the loss marking of a cause or without. -/
def Head.closed (hd : Head) (loss : Option LossCause) : Head :=
  let cleared := { { hd with generation := hd.generation + 1 }.clearQueues with slot := none }
  match loss with
  | none => cleared
  | some c => cleared.closeSites c

theorem State.head_close_self (s : State) (h : HeadId) (loss : Option LossCause) :
    (s.close h loss).head h = (s.head h).closed loss := by
  have hbump : (s.bumpGeneration h).head h = { s.head h with generation := (s.head h).generation + 1 } :=
    State.head_updHead_self s h (fun hd => { hd with generation := hd.generation + 1 })
  have hend : (((s.bumpGeneration h).updHead h Head.clearQueues).endAccess h .aborted .empty).head h
      = (s.head h).closed none := by
    rw [State.head_endAccess_self, State.head_updHead_self, hbump]
    rfl
  cases loss with
  | none => exact hend
  | some c =>
    unfold State.close
    dsimp only
    rw [State.head_updHead_self]
    exact congrArg (Head.closeSites · c) hend

theorem State.onlyHead_bumpGeneration (s : State) (h : HeadId) : s.onlyHead (s.bumpGeneration h) h :=
  State.onlyHead_updHead s h (fun hd => { hd with generation := hd.generation + 1 })

theorem State.onlyHead_close (s : State) (h : HeadId) (loss : Option LossCause) : s.onlyHead (s.close h loss) h := by
  have hend : s.onlyHead (((s.bumpGeneration h).updHead h Head.clearQueues).endAccess h .aborted .empty) h :=
    ((s.onlyHead_bumpGeneration h).trans (State.onlyHead_updHead _ h _)).trans (State.onlyHead_endAccess _ h _ _)
  cases loss with
  | none => exact hend
  | some c => exact hend.trans (State.onlyHead_updHead _ h _)

/-- A closing that leaves the head out of use keeps the life of the heads. -/
theorem State.LifeCore.close {s : State} (hs : s.LifeCore) {h : HeadId} {k f : Head → Head} (loss : Option LossCause)
    (hf : (f ((k (s.head h)).closed loss)).LifeInv) : (((s.updHead h k).close h loss).updHead h f).LifeCore := by
  have honly : s.onlyHead (((s.updHead h k).close h loss).updHead h f) h :=
    ((State.onlyHead_updHead s h k).trans (State.onlyHead_close _ h loss)).trans (State.onlyHead_updHead _ h f)
  have hself : (((s.updHead h k).close h loss).updHead h f).head h = f ((k (s.head h)).closed loss) := by
    rw [State.head_updHead_self, State.head_close_self, State.head_updHead_self]
  have hframe := (s.updHead h k).close_frame h loss
  refine hs.new_generation honly (hself ▸ hf) ?_ (fun j hj => ?_) ?_
  · rw [State.updHead_analysis, hframe]
    rfl
  · rw [State.updHead_solveList, hframe, List.mem_filter] at hj
    exact ⟨hj.1, by simpa using hj.2⟩
  · rw [State.updHead_engine, hframe]
    rfl

/-! ### The end of draining (R49) -/

/-- The head when draining has ended, before SEGMENT_DONE is raised. -/
def Head.leftDraining (hd : Head) (jobs : List SolveJob) : Head :=
  { hd.queueBlocks.finaliseDrained with state := if jobs = [] then .ready else .solving }

theorem State.head_drainedState_self (s : State) (h : HeadId) :
    (s.drainedState h).head h = (s.head h).leftDraining (s.drainJobs h) :=
  State.head_updHead_self s h (fun hd => hd.leftDraining (s.drainJobs h))

theorem State.onlyHead_drainedState (s : State) (h : HeadId) : s.onlyHead (s.drainedState h) h :=
  State.onlyHead_updHead s h (fun hd => hd.leftDraining (s.drainJobs h))

theorem Head.LifeInv.leftDraining {hd : Head} (hl : hd.LifeInv) (hstate : hd.state = .draining)
    (htrack : hd.tracking = []) (jobs : List SolveJob) : (hd.leftDraining jobs).LifeInv := by
  have hnew : (hd.leftDraining jobs).state = .ready ∨ (hd.leftDraining jobs).state = .solving := by
    unfold Head.leftDraining
    split_ifs
    exacts [.inl rfl, .inr rfl]
  have hmon : (hd.leftDraining jobs).state.monitored = true := by rcases hnew with h | h <;> rw [h] <;> rfl
  refine ⟨hl.phase.trans (iff_of_false (by simp [hstate]) ?_), fun a ha ho => ?_, fun _ _ _ => ?_, fun _ => htrack, ?_,
    fun _ => hl.laneSignal (by simp [hstate, HeadState.monitored])⟩
  · rcases hnew with h | h <;> simp [h]
  · exact absurd (hl.profileRead a ha ho).1 (by simp [hstate])
  · rcases hnew with h | h <;> simp [h]
  · rw [hmon]
    have hf := hl.fenceTimer
    rw [hstate] at hf
    exact hf

/-- A job that the end of draining makes is one of the head's current generation. -/
theorem State.eq_of_mem_drainJobs {s : State} {h : HeadId} {j : SolveJob} (hj : j ∈ s.drainJobs h) :
    j.head = h ∧ j.generation = (s.head h).generation := by
  simp only [State.drainJobs, List.mem_flatMap] at hj
  obtain ⟨i, -, hj⟩ := hj
  split_ifs at hj
  · obtain ⟨b, -, rfl⟩ := List.mem_map.mp hj
    exact ⟨rfl, rfl⟩
  · cases hj

/-- The end of draining (R49): the jobs made are those of the head, in SOLVING. -/
theorem State.LifeCore.drained {s : State} {h : HeadId} (hs : s.LifeCore) (hstate : (s.head h).state = .draining)
    (htrack : (s.head h).tracking = []) : (s.drainedState h).LifeCore := by
  have hself := s.head_drainedState_self h
  have honly := s.onlyHead_drainedState h
  have hjob (j : SolveJob) (hj : (s.head j.head).state = .solving) :
      (s.drainedState h).head j.head = s.head j.head := by
    refine honly _ fun hk => ?_
    rw [hk, hstate] at hj
    cases hj
  have hhead (k : HeadId) : ((s.drainedState h).head k).LifeInv
      ∧ ((s.drainedState h).head k).generation = (s.head k).generation := by
    by_cases hk : k = h
    · subst hk
      rw [hself]
      exact ⟨(hs.heads k).leftDraining hstate htrack _, rfl⟩
    · rw [honly k hk]
      exact ⟨hs.heads k, rfl⟩
  refine ⟨fun k => (hhead k).1, fun it hit => ?_, fun it hit => ?_, fun j hj => ?_, fun j found hj => ?_⟩
  · rw [(hhead _).2]
    exact hs.items it hit
  · rw [(hhead _).2]
    exact hs.item it hit
  · rcases List.mem_append.mp (show j ∈ s.solveList ++ s.drainJobs h from hj) with hold | hnew
    · rw [hjob j (hs.jobs j hold).2]
      exact hs.jobs j hold
    · obtain ⟨rfl, hgen⟩ := State.eq_of_mem_drainJobs hnew
      refine ⟨hgen.trans (hhead _).2.symm, ?_⟩
      rw [hself]
      exact if_neg (List.ne_nil_of_mem hnew)
  · rw [hjob j (hs.job j found hj).2]
    exact hs.job j found hj

/-! ### Every move: the heads, the items and the jobs -/

theorem State.LaneMove.lifeCore {h : HeadId} {s t : State} (hm : State.LaneMove h s t) (hs : s.LifeCore) :
    t.LifeCore := by
  cases hm with
  | head f hf => exact hs.updHead (hf.life (hs.heads h))
  | notice => exact hs.of_heads fun k => ⟨hs.heads k, rfl, id⟩
  | free => exact hs.of_heads fun k => ⟨hs.heads k, rfl, id⟩
  | enqueue it hhead hgen =>
    refine ⟨hs.heads, fun x hx => ?_, hs.item, hs.jobs, hs.job⟩
    rcases List.mem_append.mp hx with hold | hnew
    · exact hs.items x hold
    · rw [List.mem_singleton.mp hnew, hhead]
      exact hgen
  | drain hstate htrack => exact hs.drained hstate htrack
  | endAccess => exact hs.endAccess _ _ _

/-- The head at SEGMENT_OPEN with its generation counted (R20, R46). -/
theorem State.head_openSegment (s : State) (h : HeadId) :
    ((s.bumpGeneration h).updHead h Head.openSegment).head h
      = { s.head h with generation := (s.head h).generation + 1 }.openSegment := by
  rw [State.head_updHead_self]
  exact congrArg Head.openSegment (State.head_updHead_self s h (fun hd => { hd with generation := hd.generation + 1 }))

theorem State.onlyHead_openSegment (s : State) (h : HeadId) :
    s.onlyHead ((s.bumpGeneration h).updHead h Head.openSegment) h :=
  (s.onlyHead_bumpGeneration h).trans (State.onlyHead_updHead _ h _)

/-- A head that changes its generation without being closed: SEGMENT_OPEN on a head in READY (R46). -/
theorem State.LifeCore.openSegment {s : State} {h : HeadId} (hs : s.LifeCore) (hstate : (s.head h).state = .ready) :
    ((s.bumpGeneration h).updHead h Head.openSegment).LifeCore := by
  have hl := hs.heads h
  refine hs.new_generation (s.onlyHead_openSegment h) ?_ rfl (fun j hj => ⟨hj, fun hk => ?_⟩) rfl
  · rw [State.head_openSegment]
    refine ⟨hl.phase.trans (iff_of_false (by simp [hstate]) (by simp [Head.openSegment])), fun a ha ho => ?_,
      fun _ _ _ => by simp [Head.openSegment], fun hc => (by cases hc), ?_,
      fun _ => hl.laneSignal (by simp [hstate, HeadState.monitored])⟩
    · exact absurd (hl.profileRead a ha ho).1 (by simp [hstate])
    · have hf := hl.fenceTimer
      rw [hstate] at hf
      exact hf
  · have hsolving := (hs.jobs j hj).2
    rw [hk, hstate] at hsolving
    cases hsolving

/-- A mainframe access that enters the slot (R37). -/
theorem Head.LifeInv.set_slot {hd : Head} {a : Access} (hl : hd.LifeInv)
    (hstate : hd.state ≠ .offline ∧ hd.state ≠ .training ∧ hd.state ≠ .fenced) (horigin : a.origin ≠ .profileRead) :
    { hd with slot := some a }.LifeInv := by
  refine ⟨hl.phase, ?_, ?_, hl.tracking, hl.fenceTimer, hl.laneSignal⟩
  · rintro _ ⟨⟩ ho
    exact absurd ho horigin
  · rintro _ ⟨⟩ -
    exact hstate

/-- The course of time is a tweak of each head. -/
theorem Head.tweak_elapse (hd : Head) (n : Nat) : hd.Tweak (hd.elapse n) where
  fenceTimer := by cases h : hd.fenceTimer <;> simp [Head.elapse, h]
  slot := by cases h : hd.slot <;> simp [Head.elapse, h]
  tracking := by
    refine List.forall₂_map_right_iff.mpr (List.forall₂_same.mpr fun e _ => ?_)
    cases hd : e.deadline <;> simp [Deadline.elapse]

theorem Head.finishJob_frame (hd : Head) (j : SolveJob) (found : Option Solution) (last : Bool) :
    hd.finishJob j found last = { hd with
      state := if last then .ready else hd.state, blocks := (hd.finishJob j found last).blocks
      sites := (hd.finishJob j found last).sites } := by
  have hsettle (hd : Head) : hd.settleSite j.site = { hd with sites := (hd.settleSite j.site).sites } := by
    unfold Head.settleSite
    split_ifs <;> rfl
  unfold Head.finishJob
  dsimp only
  rw [hsettle]
  split_ifs <;> rfl

/-- The end of a job, on the head of which it was the last or not (R50, R140). -/
theorem State.LifeCore.finishJob {s : State} {j : SolveJob} {found : Option Solution} {last : Bool} (hs : s.LifeCore)
    (hjob : s.engine = .job j found false) (hlast : last = true ↔ ∀ k ∈ s.solveList, k.head ≠ j.head) :
    { s.updHead j.head (fun hd => hd.finishJob j found last) with engine := .idle }.LifeCore := by
  have hl := hs.heads j.head
  obtain ⟨-, hstate⟩ := hs.job j found hjob
  have hframe := (s.head j.head).finishJob_frame j found last
  rw [hstate] at hframe
  have hhead : ∀ k, ((s.updHead j.head (fun hd => hd.finishJob j found last)).head k).LifeInv
      ∧ ((s.updHead j.head (fun hd => hd.finishJob j found last)).head k).generation = (s.head k).generation := by
    refine State.forall_head_updHead (p := fun k hd => hd.LifeInv ∧ hd.generation = (s.head k).generation)
      ⟨?_, ?_⟩ fun k _ => ⟨hs.heads k, rfl⟩
    all_goals rw [hframe]
    refine ⟨hl.phase.trans (iff_of_false (by simp [hstate]) ?_), fun a ha ho => ?_, fun _ _ _ => ?_,
      fun _ => hl.tracking (by simp [hstate, HeadState.collecting]), ?_,
      fun _ => hl.laneSignal (by simp [hstate, HeadState.monitored])⟩
    · cases last <;> simp
    · exact absurd (hl.profileRead a ha ho).1 (by simp [hstate])
    · cases last <;> simp
    · have hf := hl.fenceTimer
      rw [hstate] at hf
      cases last <;> exact hf
  refine ⟨fun k => (hhead k).1, fun it hit => (hs.items it hit).trans (hhead _).2.symm, by rintro it ⟨⟩,
    fun k hk => ?_, by rintro k f ⟨⟩⟩
  refine ⟨(hs.jobs k hk).1.trans (hhead _).2.symm, ?_⟩
  show ((s.updHead j.head (fun hd => hd.finishJob j found last)).head k.head).state = .solving
  by_cases he : k.head = j.head
  · rw [he, State.head_updHead_self, hframe]
    exact if_neg fun hl => hlast.mp hl k hk he
  · rw [State.head_updHead_ne _ _ he]
    exact (hs.jobs k hk).2

theorem State.head_linkLoss (s : State) (k : HeadId) : s.linkLoss.head k
    = { s.head k with slot := (s.head k).slot.map (fun a => { a with replyWanted := false }) } :=
  State.head_of_tabulate (t := s.linkLoss)
    (f := fun h => { s.head h with slot := (s.head h).slot.map (fun a => { a with replyWanted := false }) }) rfl k

theorem State.head_poweredOn (s : State) (k : HeadId) : s.poweredOn.head k
    = { Head.reset with supplyGood := (s.head k).supplyGood, laneSignal := (s.head k).laneSignal } :=
  State.head_of_tabulate (t := s.poweredOn)
    (f := fun h => { Head.reset with supplyGood := (s.head h).supplyGood, laneSignal := (s.head h).laneSignal }) rfl k

theorem State.head_deviceReset (s : State) (r : Request) (k : HeadId) :
    (s.deviceReset r).head k = (s.head k).deviceReset :=
  State.head_of_tabulate (t := s.deviceReset r) (f := fun h => (s.head h).deviceReset) rfl k

/-- The Pattern Link's loss leaves every access without a wanted reply (R40). -/
theorem State.LifeCore.linkLoss {s : State} (hs : s.LifeCore) : s.linkLoss.LifeCore := by
  refine hs.of_heads fun k => ?_
  have hl := hs.heads k
  rw [State.head_linkLoss]
  refine ⟨⟨hl.phase, fun a ha ho => ?_, fun a ha ho => ?_, hl.tracking, hl.fenceTimer, hl.laneSignal⟩, rfl, id⟩
  · obtain ⟨b, hb, rfl⟩ := Option.map_eq_some_iff.mp ha
    exact ⟨(hl.profileRead b hb ho).1, rfl⟩
  · obtain ⟨b, hb, rfl⟩ := Option.map_eq_some_iff.mp ha
    exact hl.mainframe b hb ho

/-- A part at rest: every head out of use, and nothing queued or under way. -/
theorem State.LifeCore.of_empty {s : State} (hheads : ∀ k, (s.head k).LifeInv) (hitems : s.analysis = [])
    (hjobs : s.solveList = []) (hengine : s.engine = .idle) : s.LifeCore where
  heads := hheads
  items it hit := by rw [hitems] at hit; cases hit
  item it hit := by rw [hengine] at hit; cases hit
  jobs j hj := by rw [hjobs] at hj; cases hj
  job j found hj := by rw [hengine] at hj; cases hj

theorem State.LifeCore.elapse {s : State} (hs : s.LifeCore) (n : Nat) : (s.elapse n).LifeCore :=
  hs.of_heads fun k => by
    have htweak := (s.head k).tweak_elapse n
    rw [State.head_elapse]
    exact ⟨htweak.life (hs.heads k), htweak.generation, htweak.sameClaims.solving⟩

theorem State.Move.lifeCore {c : Instr} {s t : State} (hm : State.Move c s t) (hs : s.LifeCore) : t.LifeCore := by
  cases hm with
  | lane h _ hm => exact hm.lifeCore hs
  | buffer h _ _ hm =>
    cases hm with
    | mk f hf => exact hs.updHead (hf.life (hs.heads h))
  | lost h _ hm =>
    cases hm with
    | mk k f c x hk hx hf hreception =>
      refine hs.close (some c) ?_
      rw [hf]
      exact .of_closed hx rfl rfl rfl rfl
  | headReset h =>
    have hclose := hs.close (k := id) (f := Head.headReset) (h := h) none (.of_closed rfl rfl rfl rfl rfl)
    rwa [State.updHead_eq_self s (f := id) rfl] at hclose
  | elapse n => exact hs.elapse n
  | shared _ _ _ hframe =>
    rw [hframe]
    exact hs.of_heads fun k => ⟨hs.heads k, rfl, id⟩
  | openSegment h _ hstate => exact hs.openSegment hstate
  | reserve h a _ _ _ hslot hstate horigin hwanted =>
    exact hs.of_heads (State.forall_head_updHead (f := fun hd => { hd with slot := some a })
      (p := fun k hd => hd.LifeInv ∧ hd.generation = (s.head k).generation
        ∧ ((s.head k).state = .solving → hd.state = .solving))
      ⟨(hs.heads h).set_slot hstate horigin, rfl, id⟩ fun k _ => ⟨hs.heads k, rfl, id⟩)
  | takeItem it rest _ hq hgen =>
    refine ⟨hs.heads, fun x hx => hs.items x (hq ▸ List.mem_cons_of_mem _ hx), ?_, hs.jobs, by rintro j f ⟨⟩⟩
    rintro _ ⟨⟩
    exact hgen
  | dropItem it rest _ hq =>
    exact hs.of_heads (fun k => ⟨hs.heads k, rfl, id⟩) fun x hx => hq ▸ List.mem_cons_of_mem _ hx
  | takeJob j rest _ hq =>
    refine ⟨hs.heads, hs.items, by rintro it ⟨⟩, fun k hk => hs.jobs k (hq ▸ List.mem_cons_of_mem _ hk), ?_⟩
    rintro _ _ ⟨⟩
    exact hs.jobs j (hq ▸ List.mem_cons_self)
  | idle => exact hs.of_heads (fun k => ⟨hs.heads k, rfl, id⟩) (hengine := .inr rfl)
  | finishJob j found last _ hjob _ _ hlast => exact hs.finishJob hjob hlast
  | linkLoss => exact hs.linkLoss
  | powerOn => exact .of_empty (fun k => by rw [State.head_poweredOn]; exact .of_closed rfl rfl rfl rfl rfl) rfl rfl rfl
  | deviceReset => exact .of_empty (fun k => by rw [State.head_deviceReset]; exact .of_closed rfl rfl rfl rfl rfl) rfl rfl rfl

/-! ### The reservations (R12) -/

theorem State.Reserved.congr {s t : State} (hr : s.Reserved) (hwants : ∀ k, (t.head k).wants ↔ (s.head k).wants)
    (hres : t.reservations = s.reservations) : t.Reserved := fun k => by rw [hres, hwants]; exact hr k

theorem State.Reserved.of_slots {s t : State} (hr : s.Reserved) (hslot : ∀ k, (t.head k).slot = (s.head k).slot)
    (hres : t.reservations = s.reservations) : t.Reserved :=
  hr.congr (fun k => by simp only [Head.wants, hslot]) hres

theorem State.Reserved.updHead {s : State} {h : HeadId} {f : Head → Head} (hr : s.Reserved)
    (hf : (f (s.head h)).wants ↔ (s.head h).wants) : (s.updHead h f).Reserved :=
  hr.congr (State.forall_head_updHead (p := fun k hd => hd.wants ↔ (s.head k).wants) hf fun _ _ => Iff.rfl) rfl

/-- The heads of a state in which no access wants a reply, and no slot is reserved. -/
theorem State.Reserved.of_nil {s : State} (hres : s.reservations = []) (hwants : ∀ k, ¬ (s.head k).wants) :
    s.Reserved := fun k => iff_of_false (by rw [hres]; exact List.not_mem_nil) (hwants k)

theorem Head.not_wants_of_slot {hd : Head} (hslot : hd.slot = none) : ¬ hd.wants := by
  rintro ⟨a, ha, -⟩
  rw [hslot] at ha
  cases ha

/-- The end of an access takes its reservation with it (R12, R38). -/
theorem State.Reserved.erase_endAccess {s : State} (hr : s.Reserved) (hs : s.LifeCore) (hl : s.LinkMid) (h : HeadId)
    (st : Status) (body : ReplyBody) : (s.endAccess h st body).reservations = s.reservations.erase h := by
  have hwants {a : Access} (ha : (s.head h).slot = some a) (hmem : h ∈ s.reservations) : a.replyWanted = true := by
    obtain ⟨a', ha', hw⟩ := (hr h).mp hmem
    rw [ha] at ha'
    cases ha'
    exact hw
  unfold State.endAccess
  split
  · rename_i hslot
    exact (List.erase_of_not_mem fun hmem => Head.not_wants_of_slot hslot ((hr h).mp hmem)).symm
  · rename_i a ha
    unfold State.deferredReply
    split
    · rename_i ho
      refine (List.erase_of_not_mem fun hmem => ?_).symm
      have hw := hwants ha hmem
      rw [((hs.heads h).profileRead a ha ho).2] at hw
      cases hw
    · split_ifs with hw
      · rfl
      · refine (List.erase_of_not_mem fun hmem => hw ⟨hwants ha hmem, hmem, ?_⟩).symm
        cases hlink : s.link with
        | inSync => exact hlink
        | outOfSync =>
          obtain ⟨-, -, hnone, -⟩ := hl.outOfSync hlink
          rw [hnone] at hmem
          cases hmem

/-- A closing takes the head's reservation with it, whatever else of the head but its slot has changed before (R12,
R31). -/
theorem State.Reserved.erase_close {s : State} (hr : s.Reserved) (hs : s.LifeCore) (hl : s.LinkMid) {h : HeadId}
    {k : Head → Head} (hk : (k (s.head h)).slot = (s.head h).slot) (loss : Option LossCause) :
    ((s.updHead h k).close h loss).reservations = s.reservations.erase h := by
  have haborted : (s.updHead h k).abortedFor h = s.abortedFor h :=
    State.abortedFor_congr (by rw [State.head_updHead_self, hk]) rfl rfl
  have hend := hr.erase_endAccess hs hl h .aborted .empty
  rw [(s.endAccess_aborted h).2] at hend
  rw [((s.updHead h k).close_upstream h loss).2, haborted]
  exact hend

/-- The reservations are right when head `h` has given up its own and no other head's slot has changed. -/
theorem State.Reserved.erase {s t : State} {h : HeadId} (hr : s.Reserved) (hl : s.LinkMid) (honly : s.onlyHead t h)
    (hslot : (t.head h).slot = none) (hres : t.reservations = s.reservations.erase h) : t.Reserved := by
  intro k
  rw [hres, hl.reservations.mem_erase_iff]
  by_cases hk : k = h
  · subst hk
    exact iff_of_false (fun h => h.1 rfl) (Head.not_wants_of_slot hslot)
  · rw [honly k hk, ← hr k]
    exact ⟨fun h => h.2, fun h => ⟨hk, h⟩⟩

theorem State.Reserved.close {s : State} (hr : s.Reserved) (hs : s.LifeCore) (hl : s.LinkMid) {h : HeadId}
    {k f : Head → Head} (hk : (k (s.head h)).slot = (s.head h).slot) (loss : Option LossCause)
    (hslot : (f ((k (s.head h)).closed loss)).slot = none) :
    (((s.updHead h k).close h loss).updHead h f).Reserved := by
  refine hr.erase hl (((State.onlyHead_updHead s h k).trans (State.onlyHead_close _ h loss)).trans
    (State.onlyHead_updHead _ h f)) ?_ (hr.erase_close hs hl hk loss)
  rw [State.head_updHead_self, State.head_close_self, State.head_updHead_self]
  exact hslot

theorem State.LaneMove.reserved {h : HeadId} {s t : State} (hm : State.LaneMove h s t) (hl : s.LinkMid)
    (hs : s.LifeCore) (hr : s.Reserved) : t.Reserved := by
  cases hm with
  | head f hf => exact hr.updHead (hf.life (hs.heads h)).2.wants
  | notice => exact hr
  | free => exact hr
  | enqueue => exact hr
  | drain =>
    refine hr.of_slots (fun k => ?_) rfl
    by_cases hk : k = h
    · subst hk
      rw [State.head_drainedState_self]
      rfl
    · rw [s.onlyHead_drainedState h k hk]
  | endAccess a st body =>
    exact hr.erase hl (s.onlyHead_endAccess h st body) (by rw [State.head_endAccess_self])
      (hr.erase_endAccess hs hl h st body)

theorem State.Move.reserved {c : Instr} {s t : State} (hm : State.Move c s t) (hl : s.LinkMid) (hs : s.LifeCore)
    (hr : s.Reserved) : t.Reserved := by
  cases hm with
  | lane h _ hm => exact hm.reserved hl hs hr
  | buffer h _ _ hm =>
    cases hm with
    | mk f hf => exact hr.updHead (hf.life (hs.heads h)).2.wants
  | lost h _ hm =>
    cases hm with
    | mk k f c x hk hx hf =>
      refine hr.close hs hl hk.slot (some c) ?_
      rw [hf]
      rfl
  | headReset h =>
    have hclose := hr.close hs hl (k := id) (f := Head.headReset) (h := h) rfl none rfl
    rwa [State.updHead_eq_self s (f := id) rfl] at hclose
  | elapse n =>
    refine hr.congr (fun k => ?_) rfl
    rw [State.head_elapse]
    exact ((s.head k).tweak_elapse n).wants_iff
  | shared _ _ _ hframe =>
    rw [hframe]
    exact hr
  | openSegment h =>
    refine hr.of_slots (fun k => ?_) rfl
    by_cases hk : k = h
    · subst hk
      rw [State.head_openSegment]
      rfl
    · rw [s.onlyHead_openSegment h k hk]
  | reserve h a _ _ _ hslot _ _ hwanted =>
    intro k
    show k ∈ (if h ∈ s.reservations then s.reservations else s.reservations ++ [h])
      ↔ ((s.updHead h (fun hd => { hd with slot := some a })).head k).wants
    rw [if_neg fun hmem => Head.not_wants_of_slot hslot ((hr h).mp hmem)]
    by_cases hk : k = h
    · subst hk
      simp [Head.wants, hwanted]
    · rw [State.head_updHead_ne _ _ hk, ← hr k]
      simp [hk]
  | takeItem => exact hr
  | dropItem => exact hr
  | takeJob => exact hr
  | idle => exact hr
  | finishJob j found last =>
    refine hr.of_slots (State.forall_head_updHead (f := fun hd => hd.finishJob j found last)
      (p := fun k hd => hd.slot = (s.head k).slot) ?_ fun _ _ => rfl) rfl
    rw [Head.finishJob_frame]
  | linkLoss =>
    refine .of_nil rfl fun k => ?_
    rw [State.head_linkLoss]
    rintro ⟨a, ha, hw⟩
    obtain ⟨b, -, rfl⟩ := Option.map_eq_some_iff.mp ha
    cases hw
  | powerOn => exact .of_nil rfl fun k => by rw [State.head_poweredOn]; exact Head.not_wants_of_slot rfl
  | deviceReset => exact .of_nil rfl fun k => by rw [State.head_deviceReset]; exact Head.not_wants_of_slot rfl

/-! ### Every command -/

/-- The life of the heads within a command, with the link's invariant. -/
theorem State.Move.life {c : Instr} {s t : State} (hm : State.Move c s t) (hl : s.LinkMid) (hs : s.LifeInv) :
    t.LifeInv := by
  obtain ⟨hcore, hr⟩ := s.lifeInv_iff.mp hs
  exact t.lifeInv_iff.mpr ⟨hm.lifeCore hcore, hm.reserved hl hcore hr⟩

/-- The link's invariant and the life of the heads within a command. -/
theorem exec_lifeInv {c : Instr} {s t : State} (he : exec c s = .next t) (hl : s.LinkInv) (hs : s.LifeInv) :
    t.LifeInv :=
  ((exec_moves he).keeps (P := fun u => u.LinkRun c ∧ u.LifeInv)
    (fun _ _ hm hu => ⟨hu.1.move hm, hm.life hu.1.1 hu.2⟩) ⟨hl.linkRun c, hs⟩).2

theorem State.LifeInv.elapse {s : State} (hs : s.LifeInv) (n : Nat) : (s.elapse n).LifeInv := by
  obtain ⟨hcore, hr⟩ := s.lifeInv_iff.mp hs
  refine (State.lifeInv_iff _).mpr ⟨hcore.elapse n, hr.congr (fun k => ?_) rfl⟩
  rw [State.head_elapse]
  exact ((s.head k).tweak_elapse n).wants_iff

/-- The queue of waiting commands is no part of an invariant. -/
theorem State.LinkInv.set_pending {s : State} (h : s.LinkInv) (p : List Instr) : { s with pending := p }.LinkInv :=
  ⟨h.1, h.2, h.3, h.4, h.5, h.6, h.7, h.8⟩

theorem State.LifeInv.set_pending {s : State} (h : s.LifeInv) (p : List Instr) : { s with pending := p }.LifeInv :=
  ⟨h.1, h.2, h.3, h.4, h.5, h.6⟩

theorem State.LinkInv.elapse {s : State} (h : s.LinkInv) (n : Nat) : (s.elapse n).LinkInv :=
  ⟨h.1, h.2, h.3, h.4, h.5, h.6, h.7, h.8⟩

/-- Settles O54, by the moves of the commands: each keeps the life of the head that it touches and what the shared
blocks hold for it; a closing and SEGMENT_OPEN end the work of the older generation. -/
theorem stepKeepsTheLifeInvariant : Obligations.StepKeepsTheLifeInvariant := by
  intro s t hl hs he
  exact (step_keeps_of_exec (P := fun u => u.LinkInv ∧ u.LifeInv)
    (fun _ p h => ⟨h.1.set_pending p, h.2.set_pending p⟩) (fun _ h => ⟨h.1.elapse 1, h.2.elapse 1⟩)
    (fun _ _ _ he h => ⟨exec_linkInv he h.1, exec_lifeInv he h.1 h.2⟩) ⟨hl, hs⟩ he).2

end Sys2Proof.Machine
end

section
/-! What a command's moves do to each head, and what every step keeps of tracking queues and lane buffers (5.1, 5.2, 5.6). -/

namespace Sys2Proof.Machine

/-! ### What a move does to a head -/

/-- What one move of a command does to a head, whatever it does to the rest of the part. -/
inductive Head.Change (c : Instr) (hd : Head) : Head → Prop where
  | step {hd' : Head} (hm : hd.Step hd') : Head.Change c hd hd'
  | buffer {hd' : Head} (hr : Instr.handlesRecords c = true) (hm : hd.BufferStep hd') : Head.Change c hd hd'
  | drained (jobs : List SolveJob) (hstate : hd.state = .draining) (htrack : hd.tracking = []) :
      Head.Change c hd (hd.leftDraining jobs)
  | slot (x : Option Access) : Head.Change c hd { hd with slot := x }
  | lost (k f : Head → Head) (loss : LossCause) (x : HeadState)
      (hc : c = .headStart ∨ (∃ h, c = .fenceTimerExpiry h) ∨ Instr.handlesRecords c = true) (hk : hd.SameRecords (k hd))
      (hf : ∀ hd, f hd = { hd with
        state := x, phase := none, reason := (f hd).reason, reception := (f hd).reception })
      (hreception : ∀ hd, (f hd).reception = hd.reception ∨ (f hd).reception = none) :
      Head.Change c hd (f ((k hd).closed (some loss)))
  | headReset (hc : c = .headReset) : Head.Change c hd (hd.closed none).headReset
  | openSegment (hc : c = .segmentOpen) (hstate : hd.state = .ready) :
      Head.Change c hd { hd with generation := hd.generation + 1 }.openSegment
  | finishJob (j : SolveJob) (found : Option Solution) (last : Bool)
      (hqueued : (hd.block j.site j.block).state = .queued) (hc : c = .solveJobCompletion) :
      Head.Change c hd (hd.finishJob j found last)
  | powerOn (hc : c = .powerOn) :
      Head.Change c hd { Head.reset with supplyGood := hd.supplyGood, laneSignal := hd.laneSignal }
  | deviceReset (hc : c = .deviceReset) : Head.Change c hd hd.deviceReset

theorem Head.Change.refl (c : Instr) (hd : Head) : hd.Change c hd := .step (.tweak (.refl hd))

theorem State.change_updHead {c : Instr} {s : State} {h : HeadId} {f : Head → Head}
    (hf : (s.head h).Change c (f (s.head h))) (k : HeadId) : (s.head k).Change c ((s.updHead h f).head k) :=
  State.forall_head_updHead (p := fun k hd => (s.head k).Change c hd) hf (fun _ _ => .refl c _) k

theorem State.onlyHead.change {c : Instr} {s t : State} {h : HeadId} (ho : s.onlyHead t h)
    (hself : (s.head h).Change c (t.head h)) (k : HeadId) : (s.head k).Change c (t.head k) := by
  by_cases hk : k = h
  · exact hk ▸ hself
  · rw [ho k hk]
    exact .refl c _

theorem State.LaneMove.change (c : Instr) {h : HeadId} {s t : State} (hm : State.LaneMove h s t) (k : HeadId) :
    (s.head k).Change c (t.head k) := by
  cases hm with
  | head f hf => exact State.change_updHead (.step hf) k
  | notice => exact .refl c _
  | free => exact .refl c _
  | enqueue => exact .refl c _
  | drain hstate htrack =>
    refine (s.onlyHead_drainedState h).change ?_ k
    rw [State.head_drainedState_self]
    exact .drained _ hstate htrack
  | endAccess a st body =>
    refine (s.onlyHead_endAccess h st body).change ?_ k
    rw [State.head_endAccess_self]
    exact .slot none

theorem State.Move.change {c : Instr} {s t : State} (hm : State.Move c s t) (k : HeadId) :
    (s.head k).Change c (t.head k) := by
  cases hm with
  | lane h _ hm => exact hm.change c k
  | buffer h _ hr hm =>
    cases hm with
    | mk f hf => exact State.change_updHead (.buffer hr hf) k
  | lost h hc hm =>
    cases hm with
    | mk g f loss x hg hx hf hreception =>
      refine State.onlyHead.change (h := h)
        (((State.onlyHead_updHead s h g).trans (State.onlyHead_close _ h _)).trans (State.onlyHead_updHead _ h f)) ?_ k
      rw [State.head_updHead_self, State.head_close_self, State.head_updHead_self]
      refine .lost g f loss x ?_ hg hf hreception
      rcases hc with rfl | rfl | rfl
      exacts [.inl rfl, .inr (.inl ⟨h, rfl⟩), .inr (.inr rfl)]
  | headReset h hc =>
    refine State.onlyHead.change (h := h) ((s.onlyHead_close h none).trans (State.onlyHead_updHead _ h _)) ?_ k
    rw [State.head_updHead_self, State.head_close_self]
    exact .headReset hc
  | elapse n =>
    rw [State.head_elapse]
    exact .step (.tweak ((s.head k).tweak_elapse n))
  | shared _ _ _ hframe =>
    rw [hframe]
    exact .refl c _
  | openSegment h hc hstate =>
    refine (s.onlyHead_openSegment h).change ?_ k
    rw [State.head_openSegment]
    exact .openSegment hc hstate
  | reserve h a => exact State.change_updHead (f := fun hd => { hd with slot := some a }) (.slot (some a)) k
  | takeItem => exact .refl c _
  | dropItem => exact .refl c _
  | takeJob => exact .refl c _
  | idle => exact .refl c _
  | finishJob j found last hc _ _ hqueued =>
    exact State.change_updHead (f := fun hd => hd.finishJob j found last) (.finishJob j found last hqueued hc) k
  | linkLoss =>
    rw [State.head_linkLoss]
    exact .slot _
  | powerOn hc =>
    rw [State.head_poweredOn]
    exact .powerOn hc
  | deviceReset r hc =>
    rw [State.head_deviceReset]
    exact .deviceReset hc

/-- What every change of a head keeps, a command keeps of every head. -/
theorem exec_keeps_heads {c : Instr} {P : Head → Prop} (hchange : ∀ hd hd', hd.Change c hd' → P hd → P hd') {s t : State}
    (he : exec c s = .next t) (hs : ∀ k, P (s.head k)) (k : HeadId) : P (t.head k) :=
  (exec_moves he).keeps (P := fun u => ∀ k, P (u.head k)) (fun _ _ hm hu k => hchange _ _ (hm.change k) (hu k)) hs k

/-! ### Tracking queues (R79, R85) -/

/-- The ANSWERED entries of a queue come first, with the given tags (R85). -/
def AnsweredFirst (tags : List Byte) (q : List TrackEntry) : Prop :=
  ∃ pre post, q = pre ++ post ∧ (∀ e ∈ pre, e.deadline = .answered) ∧ (∀ e ∈ post, e.deadline ≠ .answered)
    ∧ pre.map TrackEntry.tag = tags

/-- Deadlines are paused exactly while the lane is held (R82). -/
def Paced (held : Bool) (q : List TrackEntry) : Prop :=
  (held = true → ∀ e ∈ q, ∀ n, e.deadline ≠ .running n) ∧ (held = false → ∀ e ∈ q, ∀ n, e.deadline ≠ .paused n)

theorem Head.intakeInv_iff (hd : Head) :
    hd.IntakeInv ↔ AnsweredFirst (hd.laneBuffer.map BufferedRecord.tag) hd.tracking ∧ Paced hd.laneHeld hd.tracking :=
  ⟨fun ⟨h1, h2, h3⟩ => ⟨h1, h2, h3⟩, fun ⟨h1, h2, h3⟩ => ⟨h1, h2, h3⟩⟩

theorem Paced.of_subset {held : Bool} {q q' : List TrackEntry} (hq : Paced held q) (hsub : ∀ e ∈ q', e ∈ q) :
    Paced held q' :=
  ⟨fun hh e he => hq.1 hh e (hsub e he), fun hh e he => hq.2 hh e (hsub e he)⟩

theorem exists_mem_left_of_forall₂ {α β : Type} {r : α → β → Prop} {q : List α} {q' : List β} (hr : List.Forall₂ r q q')
    {y : β} (hy : y ∈ q') : ∃ x ∈ q, r x y := by
  induction hr with
  | nil => cases hy
  | cons hxy _ ih =>
    rcases List.mem_cons.mp hy with rfl | hy
    · exact ⟨_, List.mem_cons_self, hxy⟩
    · obtain ⟨x, hx, hr⟩ := ih hy
      exact ⟨x, List.mem_cons_of_mem _ hx, hr⟩

theorem Retimed.answeredFirst {held : Bool} {tags : List Byte} {q q' : List TrackEntry} (hr : Retimed held q q')
    (hq : AnsweredFirst tags q) : AnsweredFirst tags q' := by
  obtain ⟨pre, post, rfl, hpre, hpost, rfl⟩ := hq
  induction pre generalizing q' with
  | nil =>
    refine ⟨[], q', rfl, by simp, fun e' he' => ?_, rfl⟩
    obtain ⟨e, he, -, hiff, -⟩ := exists_mem_left_of_forall₂ hr he'
    exact fun h => hpost e he (hiff.mp h)
  | cons e pre ih =>
    obtain ⟨e', q'', ⟨htag, hiff, -⟩, hrest, rfl⟩ := List.forall₂_cons_left_iff.mp hr
    obtain ⟨pre', post', rfl, hpre', hpost', htags⟩ := ih hrest (fun x hx => hpre x (List.mem_cons_of_mem _ hx))
    refine ⟨e' :: pre', post', rfl, ?_, hpost', by rw [List.map_cons, List.map_cons, htag, htags]⟩
    intro x hx
    rcases List.mem_cons.mp hx with rfl | hx
    · exact hiff.mpr (hpre e List.mem_cons_self)
    · exact hpre' x hx

theorem Retimed.paced {held : Bool} {q q' : List TrackEntry} (hr : Retimed held q q') (hq : Paced held q) :
    Paced held q' := by
  constructor
  · intro hh e' he'
    obtain ⟨e, he, -, -, hrun, -⟩ := exists_mem_left_of_forall₂ hr he'
    exact hrun hh (hq.1 hh e he)
  · intro hh e' he'
    obtain ⟨e, he, -, -, -, hpause⟩ := exists_mem_left_of_forall₂ hr he'
    exact hpause hh (hq.2 hh e he)

theorem TrackEntry.unanswered_eq_true {e : TrackEntry} (h : e.deadline ≠ .answered) : e.unanswered = true := by
  simpa [TrackEntry.unanswered] using h

theorem TrackEntry.unanswered_eq_false {e : TrackEntry} (h : e.deadline = .answered) : e.unanswered = false := by
  simp [TrackEntry.unanswered, h]

/-- The oldest unanswered entry stands right behind the ANSWERED ones. -/
theorem dropOldestUnanswered_append {pre post : List TrackEntry} (hpre : ∀ e ∈ pre, e.deadline = .answered)
    (hpost : ∀ e ∈ post, e.deadline ≠ .answered) : dropOldestUnanswered (pre ++ post) = pre ++ post.tail := by
  induction pre with
  | nil =>
    cases post with
    | nil => rfl
    | cons e post => simp [dropOldestUnanswered, TrackEntry.unanswered_eq_true (hpost e List.mem_cons_self)]
  | cons e pre ih =>
    have hrest := ih fun x hx => hpre x (List.mem_cons_of_mem _ hx)
    simp [dropOldestUnanswered, TrackEntry.unanswered_eq_false (hpre e List.mem_cons_self), hrest]

/-- A match, against a queue whose ANSWERED entries come first (R85, R87). -/
theorem matchTag_append {tag : Byte} {m : Matched} {pre post : List TrackEntry}
    (hpre : ∀ e ∈ pre, e.deadline = .answered) (hpost : ∀ e ∈ post, e.deadline ≠ .answered)
    (hm : matchTag tag (pre ++ post) = some m) :
    m.answered = pre ∧ post = m.skipped ++ m.entry :: m.later ∧ m.entry.tag = tag := by
  induction pre generalizing m with
  | nil =>
    rw [List.nil_append] at hm
    induction post generalizing m with
    | nil => cases hm
    | cons e post ih =>
      have hu := TrackEntry.unanswered_eq_true (hpost e List.mem_cons_self)
      by_cases ht : e.tag = tag
      · simp only [matchTag, hu, ht, and_self, if_true] at hm
        cases hm
        exact ⟨rfl, rfl, ht⟩
      · simp only [matchTag, hu, ht, and_false, if_false, if_true] at hm
        obtain ⟨m', hm', rfl⟩ := Option.map_eq_some_iff.mp hm
        obtain ⟨h1, h2, h3⟩ := ih (fun x hx => hpost x (List.mem_cons_of_mem _ hx)) hm'
        exact ⟨h1, by rw [h2]; rfl, h3⟩
  | cons e pre ih =>
    have hu := TrackEntry.unanswered_eq_false (hpre e List.mem_cons_self)
    simp only [List.cons_append, matchTag, hu, Bool.false_eq_true, false_and, if_false] at hm
    obtain ⟨m', hm', rfl⟩ := Option.map_eq_some_iff.mp hm
    obtain ⟨h1, h2, h3⟩ := ih (fun x hx => hpre x (List.mem_cons_of_mem _ hx)) hm'
    exact ⟨by rw [h1], h2, h3⟩

/-- The entries that a match leaves were there before it. -/
theorem mem_of_matchTag {tag : Byte} {m : Matched} {q : List TrackEntry} (hm : matchTag tag q = some m) {e : TrackEntry}
    (he : e ∈ m.answered ∨ e ∈ m.later) : e ∈ q := by
  induction q generalizing m with
  | nil => cases hm
  | cons x q ih =>
    unfold matchTag at hm
    split_ifs at hm with hx hu
    · cases hm
      rcases he with he | he
      · cases he
      · exact List.mem_cons_of_mem _ he
    · obtain ⟨m', hm', rfl⟩ := Option.map_eq_some_iff.mp hm
      exact List.mem_cons_of_mem _ (ih hm' he)
    · obtain ⟨m', hm', rfl⟩ := Option.map_eq_some_iff.mp hm
      rcases he with he | he
      · rcases List.mem_cons.mp he with rfl | he
        · exact List.mem_cons_self
        · exact List.mem_cons_of_mem _ (ih hm' (.inl he))
      · exact List.mem_cons_of_mem _ (ih hm' (.inr he))

theorem dropOldestUnanswered_sublist (q : List TrackEntry) : (dropOldestUnanswered q).Sublist q := by
  induction q with
  | nil => exact .slnil
  | cons e q ih =>
    unfold dropOldestUnanswered
    split_ifs
    · exact List.sublist_cons_self e q
    · exact ih.cons_cons e

theorem dropFirstAnswered_sublist (q : List TrackEntry) : (dropFirstAnswered q).Sublist q := by
  induction q with
  | nil => exact .slnil
  | cons e q ih =>
    unfold dropFirstAnswered
    split_ifs
    · exact ih.cons_cons e
    · exact List.sublist_cons_self e q

/-! ### Every change of a head -/

theorem Head.IntakeInv.congr {hd hd' : Head} (h : hd.IntakeInv) (ht : hd'.tracking = hd.tracking := by rfl)
    (hb : hd'.laneBuffer = hd.laneBuffer := by rfl) (hh : hd'.laneHeld = hd.laneHeld := by rfl) : hd'.IntakeInv := by
  rw [Head.intakeInv_iff] at h ⊢
  rwa [ht, hb, hh]

/-- A queue whose ANSWERED entries stay and from which unanswered ones leave. -/
theorem AnsweredFirst.filter_unanswered {tags : List Byte} {pre post post' : List TrackEntry}
    (hpre : ∀ e ∈ pre, e.deadline = .answered) (hpost : ∀ e ∈ post, e.deadline ≠ .answered)
    (hsub : ∀ e ∈ post', e ∈ post) (htags : pre.map TrackEntry.tag = tags) : AnsweredFirst tags (pre ++ post') :=
  ⟨pre, post', rfl, hpre, fun e he => hpost e (hsub e he), htags⟩

theorem Head.Step.intake {hd hd' : Head} (hm : hd.Step hd') (h : hd.IntakeInv) : hd'.IntakeInv := by
  obtain ⟨hfirst, hpaced⟩ := hd.intakeInv_iff.mp h
  obtain ⟨pre, post, hq, hpre, hpost, htags⟩ := id hfirst
  cases hm with
  | tweak ht =>
    rw [Head.intakeInv_iff, ht.laneBuffer, ht.laneHeld]
    exact ⟨ht.tracking.answeredFirst hfirst, ht.tracking.paced hpaced⟩
  | place b =>
    refine (Head.intakeInv_iff _).mpr ⟨⟨pre, post ++ [hd.newEntry b], ?_, hpre, ?_, htags⟩, ?_⟩
    · show hd.tracking ++ [hd.newEntry b] = _
      rw [hq, List.append_assoc]
    · intro e he
      rcases List.mem_append.mp he with he | he
      · exact hpost e he
      · rw [List.mem_singleton.mp he]
        simp [Head.newEntry]
    · have hnew : ∀ e ∈ [hd.newEntry b], e.deadline = .waitingSend := by simp [Head.newEntry]
      constructor
      · intro hh e he
        rcases List.mem_append.mp he with he | he
        · exact hpaced.1 hh e he
        · simp [hnew e he]
      · intro hh e he
        rcases List.mem_append.mp he with he | he
        · exact hpaced.2 hh e he
        · simp [hnew e he]
  | expire =>
    refine (Head.intakeInv_iff _).mpr ⟨?_, hpaced.of_subset fun e he => (dropOldestUnanswered_sublist _).subset he⟩
    show AnsweredFirst _ (dropOldestUnanswered hd.tracking)
    rw [hq, dropOldestUnanswered_append hpre hpost]
    exact .filter_unanswered hpre hpost (fun e he => List.mem_of_mem_tail he) htags
  | unmatch tag m hm =>
    refine (Head.intakeInv_iff _).mpr ⟨?_, hpaced.of_subset fun e he => mem_of_matchTag hm (List.mem_append.mp he)⟩
    obtain ⟨h1, h2, -⟩ := matchTag_append hpre hpost (hq ▸ hm)
    show AnsweredFirst _ (m.answered ++ m.later)
    rw [h1]
    exact .filter_unanswered hpre hpost (fun e he => by rw [h2]; simp [he]) htags
  | goTo => exact h.congr
  | stop => exact h.congr
  | process => exact h.congr
  | geometry => exact h.congr
  | start => exact h.congr
  | enterProfile => exact h.congr
  | failTraining => exact h.congr
  | acceptProfile => exact h.congr
  | supplyFall => exact h.congr
  | supplyRise => exact h.congr
  | signal => exact h.congr

theorem Head.refreshHold_intake {hd : Head} (h : hd.IntakeInv) : hd.refreshHold.IntakeInv := by
  obtain ⟨⟨pre, post, hq, hpre, hpost, htags⟩, -⟩ := hd.intakeInv_iff.mp h
  unfold Head.refreshHold
  split
  · exact h
  · have hans (held : Bool) (d : Deadline) : (if held then d.pause else d.resume) = .answered ↔ d = .answered := by
      cases held <;> cases d <;> simp [Deadline.pause, Deadline.resume]
    refine (Head.intakeInv_iff _).mpr ⟨⟨_, _, (congrArg (List.map _) hq).trans List.map_append, ?_, ?_, ?_⟩, ?_, ?_⟩
    · intro e he
      obtain ⟨x, hx, rfl⟩ := List.mem_map.mp he
      exact (hans _ _).mpr (hpre x hx)
    · intro e he
      obtain ⟨x, hx, rfl⟩ := List.mem_map.mp he
      exact fun hd => hpost x hx ((hans _ _).mp hd)
    · rw [List.map_map]
      exact htags
    · intro hh e he n
      obtain ⟨x, -, rfl⟩ := List.mem_map.mp he
      have hheld : hd.holdDue = true := hh
      cases x.deadline <;> simp [hheld, Deadline.pause]
    · intro hh e he n
      obtain ⟨x, -, rfl⟩ := List.mem_map.mp he
      have hheld : hd.holdDue = false := hh
      cases x.deadline <;> simp [hheld, Deadline.resume]

theorem Head.BufferStep.intake {hd hd' : Head} (hm : hd.BufferStep hd') (h : hd.IntakeInv) : hd'.IntakeInv := by
  obtain ⟨⟨pre, post, hq, hpre, hpost, htags⟩, hpaced⟩ := hd.intakeInv_iff.mp h
  cases hm with
  | reception => exact h.congr
  | accept tag m secs hm =>
    obtain ⟨h1, h2, h3⟩ := matchTag_append hpre hpost (hq ▸ hm)
    refine (Head.intakeInv_iff _).mpr ⟨⟨pre ++ [{ m.entry with deadline := .answered }], m.later, ?_, ?_, ?_, ?_⟩, ?_⟩
    · simp [h1]
    · intro e he
      rcases List.mem_append.mp he with he | he
      · exact hpre e he
      · rw [List.mem_singleton.mp he]
    · exact fun e he => hpost e (by rw [h2]; simp [he])
    · simp [htags, h3]
    · have hmem (e : TrackEntry) (he : e ∈ m.answered ++ { m.entry with deadline := .answered } :: m.later) :
          e ∈ hd.tracking ∨ e.deadline = .answered := by
        rcases List.mem_append.mp he with he | he
        · exact .inl (mem_of_matchTag hm (.inl he))
        · rcases List.mem_cons.mp he with rfl | he
          · exact .inr rfl
          · exact .inl (mem_of_matchTag hm (.inr he))
      constructor
      · intro hh e he
        rcases hmem e he with he | he
        · exact hpaced.1 hh e he
        · simp [he]
      · intro hh e he
        rcases hmem e he with he | he
        · exact hpaced.2 hh e he
        · simp [he]
  | complete hbuf =>
    refine (Head.intakeInv_iff _).mpr ⟨?_, hpaced.of_subset fun e he => (dropFirstAnswered_sublist _).subset he⟩
    cases pre with
    | nil => exact absurd (List.map_eq_nil_iff.mp htags.symm) hbuf
    | cons e pre =>
      refine ⟨pre, post, ?_, fun x hx => hpre x (List.mem_cons_of_mem _ hx), hpost, ?_⟩
      · show dropFirstAnswered hd.tracking = _
        rw [hq]
        simp [dropFirstAnswered, TrackEntry.unanswered_eq_false (hpre e List.mem_cons_self)]
      · show _ = hd.laneBuffer.tail.map BufferedRecord.tag
        rw [List.map_tail, ← htags]
        rfl
  | rebuffer l n hl =>
    refine (Head.intakeInv_iff _).mpr ⟨⟨pre, post, hq, hpre, hpost, htags.trans hl.symm⟩, hpaced⟩
  | hold => exact Head.refreshHold_intake h

/-- A head without tracking entries and without buffered records. -/
theorem Head.IntakeInv.of_empty {hd : Head} (ht : hd.tracking = []) (hb : hd.laneBuffer = []) : hd.IntakeInv := by
  refine ⟨⟨[], [], ht, by simp, by simp, by simp [hb]⟩, ?_, ?_⟩ <;> simp [ht]

theorem Head.Change.intake {c : Instr} {hd hd' : Head} (hm : hd.Change c hd') (h : hd.IntakeInv) : hd'.IntakeInv := by
  cases hm with
  | step hm => exact hm.intake h
  | buffer _ hm => exact hm.intake h
  | drained => exact h.congr
  | slot => exact h.congr
  | lost k f loss x _ _ hf =>
    rw [hf]
    exact .of_empty rfl rfl
  | headReset => exact .of_empty rfl rfl
  | openSegment => exact h.congr
  | finishJob j found last =>
    rw [Head.finishJob_frame]
    exact h.congr
  | powerOn => exact .of_empty rfl rfl
  | deviceReset => exact .of_empty rfl rfl

/-- What every change of a head and the course of time keep, every step keeps of every head. -/
theorem step_keeps_heads {P : Head → Prop} (hchange : ∀ c hd hd', Head.Change c hd hd' → P hd → P hd') {s t : State}
    (he : step s = .next t) (hs : ∀ k, P (s.head k)) : ∀ k, P (t.head k) :=
  step_keeps_of_exec (P := fun u => ∀ k, P (u.head k)) (fun _ _ h => h)
    (fun u h k => by
      rw [State.head_elapse]
      exact hchange .powerOn _ _ (.step (.tweak ((u.head k).tweak_elapse 1))) (h k))
    (fun c _ _ he h => exec_keeps_heads (hchange c) he h) hs he

/-- Settles O55, by the changes of one head: what leaves, joins or is answered in the tracking queue keeps the ANSWERED
entries in front, and the hold of the lane pauses and resumes all deadlines together. -/
theorem stepKeepsTheIntakeInvariant : Obligations.StepKeepsTheIntakeInvariant := fun _ _ hs he =>
  step_keeps_heads (fun _ _ _ hm h => hm.intake h) he hs

end Sys2Proof.Machine
end

section
/-! What every step keeps of the tags of unanswered entries (5.1). -/

namespace Sys2Proof.Machine

/-! ### Runs of tags -/

/-- A list of tags that is a run of consecutive values ending just below a counter. -/
def RunBelow (c : Byte) : List Byte → Prop
  | [] => True
  | t :: ts => t = c - BitVec.ofNat 8 (ts.length + 1) ∧ RunBelow c ts

theorem runBelow_iff (c : Byte) (ts : List Byte) :
    RunBelow c ts ↔ ts = (List.range ts.length).map (fun i => c - BitVec.ofNat 8 (ts.length - i)) := by
  induction ts with
  | nil => simp [RunBelow]
  | cons t ts ih =>
    have hshift : (List.range ts.length).map ((fun i => c - BitVec.ofNat 8 (ts.length + 1 - i)) ∘ Nat.succ)
        = (List.range ts.length).map (fun i => c - BitVec.ofNat 8 (ts.length - i)) :=
      List.map_congr_left fun i _ => by simp [Function.comp]
    rw [RunBelow, ih, List.length_cons, List.range_succ_eq_map, List.map_cons, List.map_map, hshift, List.cons_eq_cons,
      Nat.sub_zero]

theorem RunBelow.of_suffix {c : Byte} {ts ts' : List Byte} (hs : ts' <:+ ts) (h : RunBelow c ts) : RunBelow c ts' := by
  obtain ⟨pre, rfl⟩ := hs
  induction pre with
  | nil => exact h
  | cons t pre ih => exact ih h.2

theorem RunBelow.concat {c : Byte} {ts : List Byte} (h : RunBelow c ts) : RunBelow (c + 1) (ts ++ [c]) := by
  induction ts with
  | nil => exact ⟨by simp, trivial⟩
  | cons t ts ih =>
    refine ⟨?_, ih h.2⟩
    show t = c + 1 - BitVec.ofNat 8 ((ts ++ [c]).length + 1)
    rw [h.1, List.length_append, List.length_singleton, BitVec.ofNat_add (ts.length + 1) 1]
    exact (add_sub_add_right_eq_sub c _ 1).symm

/-- The tags of the unanswered entries of a queue, oldest first. -/
def waitingTags (q : List TrackEntry) : List Byte := (q.filter TrackEntry.unanswered).map TrackEntry.tag

theorem Head.tagRun_iff (hd : Head) : hd.TagRun ↔ RunBelow hd.tagCounter (waitingTags hd.tracking) := by
  rw [runBelow_iff, waitingTags, List.length_map]
  rfl

/-! ### What the operations on a tracking queue do to the tags that wait -/

theorem waitingTags_append (q q' : List TrackEntry) : waitingTags (q ++ q') = waitingTags q ++ waitingTags q' := by
  simp [waitingTags]

theorem waitingTags_cons (e : TrackEntry) (q : List TrackEntry) :
    waitingTags (e :: q) = if e.unanswered then e.tag :: waitingTags q else waitingTags q := by
  unfold waitingTags
  rw [List.filter_cons]
  split_ifs <;> rfl

theorem Retimed.waitingTags {held : Bool} {q q' : List TrackEntry} (hr : Retimed held q q') :
    waitingTags q' = waitingTags q := by
  induction hr with
  | nil => rfl
  | @cons e e' q q' he _ ih =>
    have hu : e'.unanswered = e.unanswered := by simp [TrackEntry.unanswered, bne, BEq.beq, he.2.1]
    rw [waitingTags_cons, waitingTags_cons, ih, hu, he.1]

theorem waitingTags_dropOldestUnanswered (q : List TrackEntry) :
    waitingTags (dropOldestUnanswered q) = (waitingTags q).tail := by
  induction q with
  | nil => rfl
  | cons e q ih =>
    unfold dropOldestUnanswered
    split_ifs with he
    · simp [waitingTags_cons, he]
    · simp [waitingTags_cons, he, ih]

theorem waitingTags_dropFirstAnswered (q : List TrackEntry) : waitingTags (dropFirstAnswered q) = waitingTags q := by
  induction q with
  | nil => rfl
  | cons e q ih =>
    unfold dropFirstAnswered
    split_ifs with he
    · simp [waitingTags_cons, he, ih]
    · simp [waitingTags_cons, he]

/-- A match leaves a final part of the tags that wait, and of those before it none (R87, R88). -/
theorem waitingTags_matchTag {tag : Byte} {m : Matched} {q : List TrackEntry} (hm : matchTag tag q = some m) :
    waitingTags m.answered = [] ∧ waitingTags m.later <:+ waitingTags q := by
  induction q generalizing m with
  | nil => cases hm
  | cons e q ih =>
    unfold matchTag at hm
    split_ifs at hm with he hu
    · cases hm
      exact ⟨rfl, by rw [waitingTags_cons, if_pos he.1]; exact List.suffix_cons _ _⟩
    · obtain ⟨m', hm', rfl⟩ := Option.map_eq_some_iff.mp hm
      obtain ⟨h1, h2⟩ := ih hm'
      exact ⟨h1, by rw [waitingTags_cons, if_pos hu]; exact h2.trans (List.suffix_cons _ _)⟩
    · obtain ⟨m', hm', rfl⟩ := Option.map_eq_some_iff.mp hm
      obtain ⟨h1, h2⟩ := ih hm'
      exact ⟨by rw [waitingTags_cons, if_neg hu, h1], by rw [waitingTags_cons, if_neg hu]; exact h2⟩

/-! ### Every change of a head -/

theorem Head.TagRun.congr {hd hd' : Head} (h : hd.TagRun)
    (ht : waitingTags hd'.tracking = waitingTags hd.tracking := by rfl) (hc : hd'.tagCounter = hd.tagCounter := by rfl) :
    hd'.TagRun := by
  rw [Head.tagRun_iff] at h ⊢
  rwa [ht, hc]

theorem Head.TagRun.of_suffix {hd hd' : Head} (h : hd.TagRun) (hs : waitingTags hd'.tracking <:+ waitingTags hd.tracking)
    (hc : hd'.tagCounter = hd.tagCounter := by rfl) : hd'.TagRun := by
  rw [Head.tagRun_iff] at h ⊢
  rw [hc]
  exact h.of_suffix hs

theorem Head.TagRun.of_empty {hd : Head} (ht : hd.tracking = []) : hd.TagRun := by
  rw [Head.tagRun_iff, ht]
  trivial

theorem Head.Step.tagRun {hd hd' : Head} (hm : hd.Step hd') (h : hd.TagRun) : hd'.TagRun := by
  cases hm with
  | tweak ht => exact h.congr ht.tracking.waitingTags ht.tagCounter
  | place b =>
    have hnew : waitingTags [hd.newEntry b] = [hd.tagCounter] := by
      rw [waitingTags_cons, if_pos (TrackEntry.unanswered_eq_true (by simp [Head.newEntry]))]
      rfl
    rw [Head.tagRun_iff] at h ⊢
    show RunBelow (hd.tagCounter + 1) (waitingTags (hd.tracking ++ [hd.newEntry b]))
    rw [waitingTags_append, hnew]
    exact h.concat
  | expire => exact h.of_suffix (by rw [waitingTags_dropOldestUnanswered]; exact List.tail_suffix _)
  | unmatch tag m hm =>
    obtain ⟨h1, h2⟩ := waitingTags_matchTag hm
    exact h.of_suffix (by rw [waitingTags_append, h1]; exact h2)
  | goTo => exact h.congr
  | stop => exact h.congr
  | process => exact h.congr
  | geometry => exact h.congr
  | start => exact h.congr
  | enterProfile => exact h.congr
  | failTraining => exact h.congr
  | acceptProfile => exact h.congr
  | supplyFall => exact h.congr
  | supplyRise => exact h.congr
  | signal => exact h.congr

theorem TrackEntry.unanswered_hold (e : TrackEntry) (held : Bool) :
    TrackEntry.unanswered { e with deadline := if held then e.deadline.pause else e.deadline.resume } = e.unanswered := by
  obtain ⟨-, -, -, -, -, -, -, -, d⟩ := e
  cases held <;> cases d <;> rfl

/-- A change of the lane's hold starts and ends no wait (R82). -/
theorem waitingTags_refreshHold (hd : Head) : waitingTags hd.refreshHold.tracking = waitingTags hd.tracking := by
  unfold Head.refreshHold
  split
  · rfl
  · generalize hd.tracking = q
    induction q with
    | nil => rfl
    | cons e q ih =>
      simp only [List.map_cons, waitingTags_cons, TrackEntry.unanswered_hold] at ih ⊢
      rw [ih]

theorem Head.tagCounter_refreshHold (hd : Head) : hd.refreshHold.tagCounter = hd.tagCounter := by
  unfold Head.refreshHold
  split <;> rfl

theorem Head.BufferStep.tagRun {hd hd' : Head} (hm : hd.BufferStep hd') (h : hd.TagRun) : hd'.TagRun := by
  cases hm with
  | reception => exact h.congr
  | accept tag m secs hm =>
    obtain ⟨h1, h2⟩ := waitingTags_matchTag hm
    refine h.of_suffix ?_
    show waitingTags (m.answered ++ { m.entry with deadline := .answered } :: m.later) <:+ _
    rw [waitingTags_append, h1, waitingTags_cons, if_neg (by simp [TrackEntry.unanswered])]
    exact h2
  | complete => exact h.congr (waitingTags_dropFirstAnswered _)
  | rebuffer => exact h.congr
  | hold => exact h.congr (waitingTags_refreshHold hd) (Head.tagCounter_refreshHold hd)

theorem Head.Change.tagRun {c : Instr} {hd hd' : Head} (hm : hd.Change c hd') (hl : hd.LifeInv) (h : hd.TagRun) :
    hd'.TagRun := by
  cases hm with
  | step hm => exact hm.tagRun h
  | buffer _ hm => exact hm.tagRun h
  | drained => exact h.congr
  | slot => exact h.congr
  | lost k f loss x _ _ hf =>
    rw [hf]
    exact .of_empty rfl
  | headReset => exact .of_empty rfl
  | openSegment _ hstate => exact .of_empty (hl.tracking (by simp [hstate, HeadState.collecting]))
  | finishJob j found last =>
    rw [Head.finishJob_frame]
    exact h.congr
  | powerOn => exact .of_empty rfl
  | deviceReset => exact .of_empty rfl

theorem exec_tagRun {c : Instr} {s t : State} (he : exec c s = .next t) (hl : s.LinkInv) (hs : s.LifeInv)
    (h : ∀ k, (s.head k).TagRun) : ∀ k, (t.head k).TagRun :=
  ((exec_moves he).keeps (P := fun u => (u.LinkRun c ∧ u.LifeInv) ∧ ∀ k, (u.head k).TagRun)
    (fun _ _ hm hu => ⟨⟨hu.1.1.move hm, hm.life hu.1.1.1 hu.1.2⟩, fun k => (hm.change k).tagRun (hu.1.2.heads k) (hu.2 k)⟩)
    ⟨⟨hl.linkRun c, hs⟩, h⟩).2

/-- Settles O56, by the changes of one head: entries leave the run of waiting tags at its front, a new one joins it with
the tag counter, and SEGMENT_OPEN finds no entry. -/
theorem stepKeepsTheTagsConsecutive : Obligations.StepKeepsTheTagsConsecutive := by
  intro s t hl hs _ h he
  refine (step_keeps_of_exec (P := fun u => (u.LinkInv ∧ u.LifeInv) ∧ ∀ k, (u.head k).TagRun)
    (fun _ p h => ⟨⟨h.1.1.set_pending p, h.1.2.set_pending p⟩, h.2⟩)
    (fun u h => ⟨⟨h.1.1.elapse 1, h.1.2.elapse 1⟩, fun k => ?_⟩)
    (fun _ _ _ he h => ⟨⟨exec_linkInv he h.1.1, exec_lifeInv he h.1.1 h.1.2⟩, exec_tagRun he h.1.1 h.1.2 h.2⟩)
    ⟨⟨hl, hs⟩, h⟩ he).2
  rw [State.head_elapse]
  exact (Head.Step.tweak ((u.head k).tweak_elapse 1)).tagRun (h.2 k)

end Sys2Proof.Machine
end

section
/-! Final verdicts (3.9). -/

namespace Sys2Proof.Machine

theorem Head.verdict_mapSites (hd : Head) {f : SiteId → Site → Site} {i : SiteId}
    (hf : ∀ i st, (f i st).verdict = st.verdict) : ((hd.mapSites f).site i).verdict = (hd.site i).verdict := by
  rw [Head.site_mapSites, hf]

/-- A site that is final keeps its verdict when sites are made final (R59). -/
theorem Head.verdict_finalise (hd : Head) (p : SiteId → Bool) (i : SiteId) (hf : (hd.site i).verdict.isFinal = true) :
    ((hd.finalise p).site i).verdict = (hd.site i).verdict := by
  rw [Head.site_finalise, if_neg (by simp [hf])]

theorem Head.verdict_lose (hd : Head) (c : LossCause) (x : BitVec 16) (i : SiteId) :
    ((Head.lose c x hd).site i).verdict = (hd.site i).verdict :=
  Head.verdict_mapSites hd fun _ st => by split_ifs <;> simp [Site.verdict_lose]

/-- A head on which site `i` has a verdict that is final. -/
def Head.Settled (i : SiteId) (v : Verdict) (hd : Head) : Prop := v.isFinal = true ∧ (hd.site i).verdict = v

theorem Head.Settled.finalise {i : SiteId} {v : Verdict} {hd : Head} (h : hd.Settled i v) (p : SiteId → Bool) :
    (hd.finalise p).Settled i v := by
  obtain ⟨hf, rfl⟩ := h
  exact ⟨hf, hd.verdict_finalise p i hf⟩

theorem Head.Settled.congr {i : SiteId} {v : Verdict} {hd hd' : Head} (h : hd.Settled i v)
    (hs : (hd'.site i).verdict = (hd.site i).verdict := by rfl) : hd'.Settled i v := ⟨h.1, hs.trans h.2⟩

theorem Head.Settled.stopSite {i : SiteId} {v : Verdict} {hd : Head} (h : hd.Settled i v) (j : SiteId)
    (why : StopReason) : (hd.stopSite j why).Settled i v := by
  refine Head.Settled.finalise (h.congr ?_) _
  by_cases hj : i = j
  · subst hj
    rw [Head.site_mapBlocks, Head.site_updSite_self]
  · rw [Head.site_mapBlocks, Head.site_updSite_ne _ _ hj]

theorem Head.Step.settled {i : SiteId} {v : Verdict} {hd hd' : Head} (hm : hd.Step hd') (h : hd.Settled i v) :
    hd'.Settled i v := by
  cases hm with
  | tweak ht => exact h.congr (ht.verdicts i (h.2 ▸ h.1))
  | place => exact h.congr
  | expire => exact h.congr
  | unmatch => exact h.congr
  | goTo => exact h.congr
  | stop j why => exact h.stopSite j why
  | process => exact h.congr
  | geometry => exact h.congr
  | start => exact h.congr (by simp [Head.start, Head.site, Head.mapSites])
  | enterProfile => exact h.congr
  | failTraining => exact h.congr
  | acceptProfile => exact h.congr (by simp [Head.acceptProfile, Head.site, Head.mapSites])
  | supplyFall => exact h.congr
  | supplyRise => exact h.congr
  | signal => exact h.congr

theorem Head.BufferStep.settled {i : SiteId} {v : Verdict} {hd hd' : Head} (hm : hd.BufferStep hd')
    (h : hd.Settled i v) : hd'.Settled i v := by
  cases hm with
  | reception => exact h.congr
  | accept => exact h.congr
  | complete => exact h.congr
  | rebuffer => exact h.congr
  | hold =>
    unfold Head.refreshHold
    split
    exacts [h, h.congr]

theorem Head.Settled.closeSites {i : SiteId} {v : Verdict} {hd : Head} (h : hd.Settled i v) (c : LossCause) :
    (hd.closeSites c).Settled i v := by
  unfold Head.closeSites
  dsimp only
  refine Head.Settled.finalise (Head.Settled.congr h ?_) _
  rw [Head.verdict_lose, Head.site_mapBlocks]

/-- The closing actions make sites final and leave those that are (R31, R59). -/
theorem Head.Settled.closed {i : SiteId} {v : Verdict} {hd : Head} (h : hd.Settled i v) (loss : Option LossCause) :
    (hd.closed loss).Settled i v := by
  cases loss with
  | none => exact h.congr
  | some c => exact Head.Settled.closeSites h.congr c

theorem Head.Change.settled {c : Instr} {i : SiteId} {v : Verdict} {hd hd' : Head} (hm : hd.Change c hd')
    (hpower : c ≠ .powerOn) (hdevice : c ≠ .deviceReset) (hreset : c ≠ .headReset) (hopen : c ≠ .segmentOpen)
    (h : hd.Settled i v) : hd'.Settled i v := by
  cases hm with
  | step hm => exact hm.settled h
  | buffer _ hm => exact hm.settled h
  | drained => exact Head.Settled.congr (Head.Settled.finalise (h.congr (hd' := hd.queueBlocks)) _)
  | slot => exact h.congr
  | lost k f loss x _ hk hf =>
    rw [hf]
    exact Head.Settled.congr (Head.Settled.closed (h.congr (hk.verdicts i)) _)
  | headReset hc => exact absurd hc hreset
  | openSegment hc => exact absurd hc hopen
  | finishJob j found last =>
    have hsettle : (Head.settleSite (hd.setBlock j.site j.block ((hd.block j.site j.block).complete found)) j.site).Settled i v := by
      unfold Head.settleSite
      split_ifs
      · exact h.congr
      · exact Head.Settled.finalise h.congr _
    unfold Head.finishJob
    split_ifs
    · exact hsettle.congr
    · exact hsettle
  | powerOn hc => exact absurd hc hpower
  | deviceReset hc => exact absurd hc hdevice

/-- Settles O58, by the changes of one head: sites are made final by `Head.finalise` alone, which leaves a final site as
it is, and loss causes and stops leave the verdict. -/
theorem finalVerdictsChangeOnlyByReopening : Obligations.FinalVerdictsChangeOnlyByReopening := by
  intro c s t h i hpower hdevice hreset hopen he hfinal
  refine ((exec_moves he).keeps (P := fun u => (u.head h).Settled i ((s.head h).site i).verdict)
    (fun _ _ hm hu => (hm.change h).settled hpower hdevice hreset hopen hu) ⟨hfinal, rfl⟩).2

end Sys2Proof.Machine
end

section
/-! Result-record units (10.5): how a unit that passes the framing check reads, and how its fail entries are counted. -/

namespace Sys2Proof.Machine

/-! ### Fail entries -/

/-- The bytes of one fail entry in a check mode (10.5). -/
def EntryBytes (mode : CheckMode) (bytes : List Byte) (e : FailEntry) : Prop :=
  ∃ (offset high low : Byte) (check : List Byte), bytes = offset :: high :: low :: check ∧ e.offset = offset
    ∧ e.ioMask = high ++ low ∧ (mode = .none → check = [] ∧ e.checkBit = none)
    ∧ (mode ≠ .none → ∃ c, check = [c] ∧ e.checkBit = some (c.getLsbD 0))

theorem CheckMode.entrySize_of_ne {mode : CheckMode} (hm : mode ≠ .none) : mode.entrySize = 4 := by
  cases mode with
  | none => exact absurd rfl hm
  | _ => rfl

theorem EntryBytes.length {mode : CheckMode} {bytes : List Byte} {e : FailEntry} (h : EntryBytes mode bytes e) :
    bytes.length = mode.entrySize := by
  obtain ⟨offset, high, low, check, rfl, -, -, hnone, hsome⟩ := h
  by_cases hm : mode = .none
  · rw [(hnone hm).1, hm]
    rfl
  · obtain ⟨c, rfl, -⟩ := hsome hm
    exact (CheckMode.entrySize_of_ne hm).symm

/-- A fail entry is read by its bytes alone, whatever follows them. -/
theorem EntryBytes.read {mode : CheckMode} {bytes : List Byte} {e : FailEntry} (h : EntryBytes mode bytes e)
    (rest : List Byte) : FailEntry.read mode (bytes ++ rest) = e := by
  obtain ⟨offset, high, low, check, rfl, hoffset, hmask, hnone, hsome⟩ := h
  obtain ⟨o, m, c⟩ := e
  by_cases hm : mode = .none
  · obtain ⟨rfl, hbit⟩ := hnone hm
    simp_all [FailEntry.read, byteAt, wordAt]
  · obtain ⟨c, rfl, hbit⟩ := hsome hm
    simp_all [FailEntry.read, byteAt, wordAt]

/-- Bytes enough for an entry begin with one. -/
theorem entryBytes_take {mode : CheckMode} {bs : List Byte} (hlen : mode.entrySize ≤ bs.length) :
    EntryBytes mode (bs.take mode.entrySize) (FailEntry.read mode bs) := by
  by_cases hm : mode = .none
  · subst hm
    obtain _ | ⟨a, _ | ⟨b, _ | ⟨c, bs⟩⟩⟩ := bs <;> simp [CheckMode.entrySize] at hlen
    exact ⟨a, b, c, [], rfl, rfl, rfl, fun _ => ⟨rfl, rfl⟩, fun h => absurd rfl h⟩
  · have hsize := CheckMode.entrySize_of_ne hm
    rw [hsize] at hlen ⊢
    obtain _ | ⟨a, _ | ⟨b, _ | ⟨c, _ | ⟨d, bs⟩⟩⟩⟩ := bs <;> simp at hlen
    exact ⟨a, b, c, [d], rfl, rfl, rfl, fun h => absurd h hm, fun _ => ⟨d, rfl, by simp [FailEntry.read, hm, byteAt]⟩⟩

theorem CheckMode.entrySize_pos (mode : CheckMode) : 0 < mode.entrySize := by cases mode <;> decide

theorem readEntries_iff (mode : CheckMode) (n : Nat) (bs rest : List Byte) (es : List FailEntry) :
    readEntries mode n bs = some (es, rest)
      ↔ es.length = n ∧ ∃ chunks : List (List Byte), bs = chunks.flatten ++ rest ∧ List.Forall₂ (EntryBytes mode) chunks es := by
  induction n generalizing bs es with
  | zero =>
    simp only [readEntries, Option.some.injEq, Prod.mk.injEq]
    constructor
    · rintro ⟨rfl, rfl⟩
      exact ⟨rfl, [], rfl, .nil⟩
    · rintro ⟨hlen, chunks, rfl, hc⟩
      obtain rfl := List.eq_nil_of_length_eq_zero hlen
      obtain rfl := List.forall₂_nil_right_iff.mp hc
      exact ⟨rfl, rfl⟩
  | succ n ih =>
    unfold readEntries
    split_ifs with hlen
    · refine iff_of_false (by simp) ?_
      rintro ⟨hes, chunks, rfl, hc⟩
      obtain ⟨e, es, rfl⟩ := List.exists_cons_of_length_eq_add_one hes
      obtain ⟨chunk, chunks, hchunk, -, rfl⟩ := List.forall₂_cons_right_iff.mp hc
      simp only [List.flatten_cons, List.append_assoc, List.length_append, hchunk.length] at hlen
      omega
    · rw [Option.map_eq_some_iff]
      constructor
      · rintro ⟨⟨es', rest'⟩, hread, heq⟩
        obtain ⟨hes, hrest⟩ := Prod.mk.inj heq
        subst hes hrest
        obtain ⟨hl, chunks, hdrop, hc⟩ := (ih _ _).mp hread
        refine ⟨by simp [hl], bs.take mode.entrySize :: chunks, ?_, .cons (entryBytes_take (Nat.not_lt.mp hlen)) hc⟩
        rw [List.flatten_cons, List.append_assoc, ← hdrop, List.take_append_drop]
      · rintro ⟨hes, chunks, rfl, hc⟩
        obtain ⟨e, es, rfl⟩ := List.exists_cons_of_length_eq_add_one hes
        obtain ⟨chunk, chunks, hchunk, hchunks, rfl⟩ := List.forall₂_cons_right_iff.mp hc
        refine ⟨(es, rest), ?_, ?_⟩
        · rw [ih]
          refine ⟨by simpa using hes, chunks, ?_, hchunks⟩
          rw [List.flatten_cons, List.append_assoc, ← hchunk.length, List.drop_left]
        · rw [List.flatten_cons, List.append_assoc, hchunk.read]

/-! ### Sections -/

/-- The bytes of one section in a check mode (10.5). -/
def SectionBytes (mode : CheckMode) (bytes : List Byte) (sec : RecordSection) : Prop :=
  ∃ (site high low : Byte) (entries : List (List Byte)), bytes = site :: high :: low :: entries.flatten
    ∧ sec.site.val = site.toNat % 16 ∧ high.toNat * 256 + low.toNat = sec.entries.length ∧ sec.entries.length ≤ 256
    ∧ List.Forall₂ (EntryBytes mode) entries sec.entries

theorem append_toNat (high low : Byte) : (high ++ low).toNat = high.toNat * 256 + low.toNat := by
  rw [BitVec.toNat_append, Nat.shiftLeft_eq, ← Nat.shiftLeft_eq, ← Nat.shiftLeft_add_eq_or_of_lt low.isLt, Nat.shiftLeft_eq]

theorem siteField_val (site : Byte) : (Fin.ofNat 16 (site.extractLsb' 0 4).toNat).val = site.toNat % 16 := by
  simp [Fin.ofNat]

theorem readSections_cons (mode : CheckMode) (n : Nat) (site high low : Byte) (content rest : List Byte)
    (secs : List RecordSection) :
    readSections mode (n + 1) (site :: high :: low :: content) = some (secs, rest)
      ↔ high.toNat * 256 + low.toNat ≤ 256 ∧ ∃ es content', readEntries mode (high.toNat * 256 + low.toNat) content
          = some (es, content') ∧ ∃ secs', readSections mode n content' = some (secs', rest)
          ∧ secs = ⟨Fin.ofNat 16 (site.extractLsb' 0 4).toNat, es⟩ :: secs' := by
  have hcount : (wordAt (site :: high :: low :: content) 1).toNat = high.toNat * 256 + low.toNat := append_toNat high low
  rw [readSections, if_neg (by simp)]
  simp only [hcount]
  split_ifs with hc
  · exact iff_of_false (by simp) fun h => by omega
  · cases hread : readEntries mode (high.toNat * 256 + low.toNat) content with
    | none => simp [hread]
    | some p =>
      obtain ⟨es, content'⟩ := p
      simp only [List.drop_succ_cons, List.drop_zero, hread, Option.map_eq_some_iff, Prod.exists, Prod.mk.injEq,
        Option.some.injEq]
      constructor
      · rintro ⟨secs', rest', hrec, rfl, rfl⟩
        exact ⟨Nat.not_lt.mp hc, es, content', ⟨rfl, rfl⟩, secs', hrec, rfl⟩
      · rintro ⟨-, _, _, ⟨rfl, rfl⟩, secs', hrec, rfl⟩
        exact ⟨secs', rest, hrec, rfl, rfl⟩

theorem readSections_iff (mode : CheckMode) (n : Nat) (bs rest : List Byte) (secs : List RecordSection) :
    readSections mode n bs = some (secs, rest)
      ↔ secs.length = n ∧ ∃ parts : List (List Byte), bs = parts.flatten ++ rest
        ∧ List.Forall₂ (SectionBytes mode) parts secs := by
  induction n generalizing bs secs with
  | zero =>
    simp only [readSections, Option.some.injEq, Prod.mk.injEq]
    constructor
    · rintro ⟨rfl, rfl⟩
      exact ⟨rfl, [], rfl, .nil⟩
    · rintro ⟨hlen, parts, rfl, hc⟩
      obtain rfl := List.eq_nil_of_length_eq_zero hlen
      obtain rfl := List.forall₂_nil_right_iff.mp hc
      exact ⟨rfl, rfl⟩
  | succ n ih =>
    constructor
    · intro hread
      have hlen : 3 ≤ bs.length := by
        by_contra hlt
        rw [readSections, if_pos (Nat.not_le.mp hlt)] at hread
        cases hread
      obtain _ | ⟨site, _ | ⟨high, _ | ⟨low, content⟩⟩⟩ := bs <;> simp at hlen
      obtain ⟨hcount, es, content', hes, secs', hrec, rfl⟩ := (readSections_cons ..).mp hread
      obtain ⟨hl, chunks, rfl, hchunks⟩ := (readEntries_iff ..).mp hes
      obtain ⟨rfl, parts, rfl, hparts⟩ := (ih _ _).mp hrec
      refine ⟨rfl, (site :: high :: low :: chunks.flatten) :: parts, by simp, .cons ?_ hparts⟩
      exact ⟨site, high, low, chunks, rfl, siteField_val site, hl.symm, hl ▸ hcount, hchunks⟩
    · rintro ⟨hlen, parts, rfl, hparts⟩
      obtain ⟨sec, secs, rfl⟩ := List.exists_cons_of_length_eq_add_one hlen
      obtain ⟨part, parts, ⟨site, high, low, chunks, rfl, hsite, hcount, hle, hchunks⟩, hrest, rfl⟩ :=
        List.forall₂_cons_right_iff.mp hparts
      refine (readSections_cons ..).mpr ⟨hcount ▸ hle, sec.entries, parts.flatten ++ rest, ?_, secs, ?_, ?_⟩
      · exact (readEntries_iff ..).mpr ⟨hcount.symm, chunks, by simp, hchunks⟩
      · exact (ih _ _).mpr ⟨by simpa using hlen, parts, rfl, hrest⟩
      · have hfin : sec.site = Fin.ofNat 16 (site.extractLsb' 0 4).toNat := Fin.ext (hsite.trans (siteField_val site).symm)
        rw [← hfin]

/-! ### Whole records -/

/-- A unit of a tag, a flags byte and more passes the framing check exactly when it is its header, the announced
sections and the end mark (R90, R165). -/
theorem readRecord_iff (mode : CheckMode) (tag flags : Byte) (rest : List Byte) (hrest : rest ≠ [])
    (secs : List RecordSection) :
    readRecord mode (tag :: flags :: rest) = some secs ↔ ∃ parts : List (List Byte), rest = parts.flatten ++ [0xA5]
      ∧ flags.toNat % 32 = secs.length ∧ secs.length ≤ 16 ∧ (secs.map RecordSection.site).Nodup
      ∧ List.Forall₂ (SectionBytes mode) parts secs := by
  obtain ⟨body, last, rfl⟩ := List.eq_nil_or_concat'  rest |>.resolve_left hrest
  have hcount : ((byteAt (tag :: flags :: (body ++ [last])) 1).extractLsb' 0 5).toNat = flags.toNat % 32 := by
    simp [byteAt]
  have hlast : (tag :: flags :: (body ++ [last])).getLast? = some last :=
    List.getLast?_concat (l := tag :: flags :: body)
  have hbody : ((tag :: flags :: (body ++ [last])).drop 2).dropLast = body := by simp
  simp only [readRecord, hcount, hlast, hbody, Option.some.injEq]
  constructor
  · intro hread
    split_ifs at hread with hc
    split at hread
    · rename_i secs' hsecs
      split_ifs at hread with hnodup
      cases hread
      obtain ⟨hl, parts, hb, hparts⟩ := (readSections_iff ..).mp hsecs
      rw [List.append_nil] at hb
      exact ⟨parts, by rw [hb, hc.1], hl.symm, hl ▸ hc.2, hnodup, hparts⟩
    · cases hread
  · rintro ⟨parts, heq, hl, hle, hnodup, hparts⟩
    obtain ⟨rfl, hmark⟩ := List.append_inj' heq rfl
    obtain rfl : last = 0xA5 := by simpa using hmark
    have hread : readSections mode (flags.toNat % 32) parts.flatten = some (secs, []) :=
      (readSections_iff ..).mpr ⟨hl.symm, parts, (List.append_nil _).symm, hparts⟩
    rw [if_pos ⟨rfl, hl ▸ hle⟩, hread]
    simp only [hnodup, if_true]

/-! ### The entries that the lane counts -/

/-- A whole section announces as many entries as it holds. -/
def WholeSection (size : Nat) (part : List Byte) : Prop :=
  ∃ (site high low : Byte) (entries : List Byte), part = site :: high :: low :: entries
    ∧ entries.length = (high.toNat * 256 + low.toNat) * size

theorem countSections_cons (size n : Nat) (site high low : Byte) (content : List Byte) :
    countSections size (n + 1) (site :: high :: low :: content)
      = min (high.toNat * 256 + low.toNat) (content.length / size)
        + countSections size n (content.drop ((high.toNat * 256 + low.toNat) * size)) := by
  have hcount : (wordAt (site :: high :: low :: content) 1).toNat = high.toNat * 256 + low.toNat := append_toNat high low
  rw [countSections, if_neg (by simp)]
  simp only [hcount]
  rfl

/-- Whole sections count in full, and the count goes on with what follows them. -/
theorem countSections_whole {size : Nat} (hsize : 0 < size) {parts : List (List Byte)} (tail : List Byte) (n : Nat)
    (hparts : ∀ part ∈ parts, WholeSection size part) :
    countSections size (parts.length + n) (parts.flatten ++ tail)
      = (parts.map (fun part => (part.length - 3) / size)).sum + countSections size n tail := by
  induction parts with
  | nil => simp
  | cons part parts ih =>
    obtain ⟨site, high, low, entries, rfl, hlen⟩ := hparts part List.mem_cons_self
    have hrest := ih fun p hp => hparts p (List.mem_cons_of_mem _ hp)
    have hwhole : entries.length / size = high.toNat * 256 + low.toNat := by rw [hlen, Nat.mul_div_cancel _ hsize]
    have hroom : high.toNat * 256 + low.toNat ≤ (entries ++ (parts.flatten ++ tail)).length / size := by
      rw [List.length_append, ← hwhole]
      exact Nat.div_le_div_right (Nat.le_add_right _ _)
    rw [List.length_cons, Nat.add_right_comm, List.flatten_cons, List.append_assoc, List.cons_append, List.cons_append,
      List.cons_append, countSections_cons, Nat.min_eq_left hroom, ← hlen, List.drop_left, hrest, List.map_cons,
      List.sum_cons, ← Nat.add_assoc]
    congr 2
    simpa using hwhole.symm

theorem countSections_short (size n : Nat) {bs : List Byte} (hlen : bs.length < 3) : countSections size n bs = 0 := by
  cases n with
  | zero => rfl
  | succ n => rw [countSections, if_pos hlen]

theorem EntryBytes.length_flatten {mode : CheckMode} {chunks : List (List Byte)} {es : List FailEntry}
    (hc : List.Forall₂ (EntryBytes mode) chunks es) : chunks.flatten.length = es.length * mode.entrySize := by
  induction hc with
  | nil => simp
  | cons hchunk _ ih => simp [hchunk.length, ih, Nat.add_mul, Nat.add_comm]

theorem SectionBytes.whole {mode : CheckMode} {part : List Byte} {sec : RecordSection} (h : SectionBytes mode part sec) :
    WholeSection mode.entrySize part ∧ (part.length - 3) / mode.entrySize = sec.entries.length := by
  obtain ⟨site, high, low, chunks, rfl, -, hcount, -, hchunks⟩ := h
  have hlen := EntryBytes.length_flatten hchunks
  refine ⟨⟨site, high, low, _, rfl, by rw [hcount, hlen]⟩, ?_⟩
  simp [hlen, Nat.mul_div_cancel _ mode.entrySize_pos]

/-- Sections that read as they should are whole, and count as they read. -/
theorem SectionBytes.counts {mode : CheckMode} {parts : List (List Byte)} {secs : List RecordSection}
    (hparts : List.Forall₂ (SectionBytes mode) parts secs) :
    (∀ part ∈ parts, WholeSection mode.entrySize part)
      ∧ parts.map (fun part => (part.length - 3) / mode.entrySize) = secs.map (fun sec => sec.entries.length) := by
  induction hparts with
  | nil => exact ⟨by simp, rfl⟩
  | cons hpart _ ih =>
    refine ⟨fun p hp => ?_, by simp [hpart.whole.2, ih.2]⟩
    rcases List.mem_cons.mp hp with rfl | hp
    · exact hpart.whole.1
    · exact ih.1 p hp

/-- Of a record that passes the framing check exactly its entries are counted (R36, R165). -/
theorem countEntries_of_readRecord {mode : CheckMode} {unit : List Byte} {secs : List RecordSection}
    (hlen : 3 ≤ unit.length) (hread : readRecord mode unit = some secs) :
    countEntries mode unit = (secs.map (fun sec => sec.entries.length)).sum := by
  obtain _ | ⟨tag, _ | ⟨flags, rest⟩⟩ := unit <;> simp at hlen
  obtain ⟨parts, rfl, hcount, -, -, hparts⟩ := (readRecord_iff mode tag flags rest (by rintro rfl; simp at hlen) secs).mp hread
  obtain ⟨hwhole, hsum⟩ := SectionBytes.counts hparts
  have hn : ((byteAt (tag :: flags :: (parts.flatten ++ [0xA5])) 1).extractLsb' 0 5).toNat = parts.length + 0 := by
    rw [hparts.length_eq, Nat.add_zero, ← hcount]
    simp [byteAt]
  rw [countEntries, hn]
  exact (countSections_whole mode.entrySize_pos [0xA5] 0 hwhole).trans (by rw [hsum]; rfl)

end Sys2Proof.Machine
end

section
/-! What every step keeps of the sizes of queues, buffers and counts (2.9, 3.1, 3.3, 4.4, 5.1, 7.1, 7.2, 9.1). -/

namespace Sys2Proof.Machine

/-! ### Queues and counts, apart from the lane buffer -/

/-- The sizes of a head's queues and counts, but for its lane buffer. -/
structure Head.CountsInv (hd : Head) : Prop where
  sendQueue : hd.sendQueue.length ≤ Config.sendQueueSize
  tracking : hd.tracking.length ≤ Config.trackingQueueSize
  log : hd.log.length ≤ Config.failLogSize
  strays : hd.strays ≤ Config.countTop
  skipped : hd.skipped ≤ Config.countTop
  rawFails : ∀ i, (hd.site i).rawFails ≤ Config.countTop

/-- A change that leaves the queues and counts no greater. -/
theorem Head.CountsInv.mono {hd hd' : Head} (h : hd.CountsInv)
    (hsend : hd'.sendQueue.length ≤ hd.sendQueue.length := by exact Nat.le_refl _)
    (htrack : hd'.tracking.length ≤ hd.tracking.length := by exact Nat.le_refl _)
    (hlog : hd'.log.length ≤ hd.log.length := by exact Nat.le_refl _)
    (hstrays : hd'.strays ≤ hd.strays := by exact Nat.le_refl _)
    (hskipped : hd'.skipped ≤ hd.skipped := by exact Nat.le_refl _)
    (hraw : ∀ i, (hd'.site i).rawFails ≤ (hd.site i).rawFails := by exact fun _ => Nat.le_refl _) : hd'.CountsInv :=
  ⟨hsend.trans h.sendQueue, htrack.trans h.tracking, hlog.trans h.log, hstrays.trans h.strays, hskipped.trans h.skipped,
    fun i => (hraw i).trans (h.rawFails i)⟩

theorem Head.CountsInv.of_empty {hd : Head} (hsend : hd.sendQueue = []) (htrack : hd.tracking = []) (hlog : hd.log = [])
    (hstrays : hd.strays = 0) (hskipped : hd.skipped = 0) (hraw : ∀ i, (hd.site i).rawFails = 0) : hd.CountsInv := by
  refine ⟨?_, ?_, ?_, ?_, ?_, fun i => ?_⟩
  · simp [hsend]
  · simp [htrack]
  · simp [hlog]
  · simp [hstrays]
  · simp [hskipped]
  · simp [hraw]

theorem Head.rawFails_mapSites (hd : Head) {f : SiteId → Site → Site} (hf : ∀ i st, (f i st).rawFails = st.rawFails)
    (i : SiteId) : ((hd.mapSites f).site i).rawFails = (hd.site i).rawFails := by
  rw [Head.site_mapSites, hf]

theorem Head.rawFails_finalise (hd : Head) (p : SiteId → Bool) (i : SiteId) :
    ((hd.finalise p).site i).rawFails = (hd.site i).rawFails :=
  hd.rawFails_mapSites (fun _ _ => by split_ifs <;> rfl) i

theorem Head.rawFails_lose (hd : Head) (c : LossCause) (x : BitVec 16) (i : SiteId) :
    ((Head.lose c x hd).site i).rawFails = (hd.site i).rawFails :=
  hd.rawFails_mapSites (fun _ st => by split_ifs <;> simp [Site.rawFails_lose]) i

theorem Head.rawFails_stopSite (hd : Head) (j : SiteId) (why : StopReason) (i : SiteId) :
    ((hd.stopSite j why).site i).rawFails = (hd.site i).rawFails := by
  unfold Head.stopSite
  rw [Head.rawFails_finalise, Head.site_mapBlocks]
  by_cases hj : i = j
  · subst hj
    rw [Head.site_updSite_self]
  · rw [Head.site_updSite_ne _ _ hj]

theorem Head.rawFails_closeSites (hd : Head) (c : LossCause) (i : SiteId) :
    ((hd.closeSites c).site i).rawFails = (hd.site i).rawFails := by
  unfold Head.closeSites
  dsimp only
  rw [Head.rawFails_finalise, Head.rawFails_lose, Head.site_mapBlocks]

theorem length_of_matchTag {tag : Byte} {m : Matched} {q : List TrackEntry} (hm : matchTag tag q = some m) :
    m.answered.length + m.skipped.length + 1 + m.later.length = q.length := by
  induction q generalizing m with
  | nil => cases hm
  | cons e q ih =>
    unfold matchTag at hm
    split_ifs at hm with he hu
    · cases hm
      simp [Nat.add_comm]
    all_goals
      obtain ⟨m', hm', rfl⟩ := Option.map_eq_some_iff.mp hm
      have hlen := ih hm'
      simp only [List.length_cons]
      omega

theorem Head.Step.counts {hd hd' : Head} (hm : hd.Step hd') (h : hd.CountsInv) : hd'.CountsInv := by
  cases hm with
  | tweak ht =>
    exact ⟨ht.sendQueue h.sendQueue, ht.tracking.length_eq ▸ h.tracking, ht.log h.log, ht.strays h.strays,
      ht.skipped h.skipped, fun i => ht.rawFails i (h.rawFails i)⟩
  | place b hstate hsend htrack =>
    refine ⟨?_, ?_, h.log, h.strays, h.skipped, h.rawFails⟩
    · simpa [Head.place] using hsend
    · simpa [Head.place] using htrack
  | expire => exact h.mono (htrack := (dropOldestUnanswered_sublist _).length_le)
  | unmatch tag m hm =>
    have hlen := length_of_matchTag hm
    exact h.mono (htrack := by rw [List.length_append]; omega)
  | goTo => exact h.mono
  | stop j why => exact h.mono (hraw := fun i => (hd.rawFails_stopSite j why i).le)
  | process => exact h.mono
  | geometry => exact h.mono
  | start => exact h.mono (hraw := fun i => by simp [Head.start, Head.site, Head.mapSites])
  | enterProfile => exact h.mono
  | failTraining => exact h.mono
  | acceptProfile => exact h.mono (hraw := fun i => by simp [Head.acceptProfile, Head.site, Head.mapSites])
  | supplyFall => exact h.mono
  | supplyRise => exact h.mono
  | signal => exact h.mono

theorem Head.BufferStep.counts {hd hd' : Head} (hm : hd.BufferStep hd') (h : hd.CountsInv) : hd'.CountsInv := by
  cases hm with
  | reception => exact h.mono
  | accept tag m secs hm =>
    have hlen := length_of_matchTag hm
    exact h.mono (htrack := by rw [List.length_append, List.length_cons]; omega)
  | complete => exact h.mono (htrack := (dropFirstAnswered_sublist _).length_le)
  | rebuffer l n hl hn => exact ⟨h.sendQueue, h.tracking, h.log, hn h.strays, h.skipped, h.rawFails⟩
  | hold =>
    unfold Head.refreshHold
    split
    · exact h
    · exact h.mono (htrack := (List.length_map _).le)

theorem Head.Change.counts {c : Instr} {hd hd' : Head} (hm : hd.Change c hd') (h : hd.CountsInv) : hd'.CountsInv := by
  cases hm with
  | step hm => exact hm.counts h
  | buffer _ hm => exact hm.counts h
  | drained => exact h.mono (hraw := fun i => (hd.queueBlocks.rawFails_finalise _ i).le)
  | slot => exact h.mono
  | lost k f loss x _ hk hf =>
    rw [hf]
    exact ⟨Nat.zero_le _, Nat.zero_le _, (congrArg List.length hk.log).trans_le h.log, hk.strays.trans_le h.strays,
      hk.skipped.trans_le h.skipped,
      fun i => (Head.rawFails_closeSites _ loss i).trans_le ((hk.rawFails i).trans_le (h.rawFails i))⟩
  | headReset => exact .of_empty rfl rfl rfl rfl rfl fun i => by simp [Head.headReset, Head.site, Head.mapSites, Site.headReset, Site.reset]
  | openSegment =>
    refine ⟨h.sendQueue, h.tracking, Nat.zero_le _, h.strays, Nat.zero_le _, fun i => ?_⟩
    simp [Head.openSegment, Head.site, Head.mapSites, Head.mapBlocks, Site.openSegment]
  | finishJob j found last =>
    have hraw (i : SiteId) : ((hd.finishJob j found last).site i).rawFails = (hd.site i).rawFails := by
      have hsettle (hd : Head) : ((hd.settleSite j.site).site i).rawFails = (hd.site i).rawFails := by
        unfold Head.settleSite
        split_ifs
        · rfl
        · exact hd.rawFails_finalise _ i
      unfold Head.finishJob
      split_ifs <;> exact hsettle _
    rw [Head.finishJob_frame]
    exact h.mono (hraw := fun i => (hraw i).le)
  | powerOn => exact .of_empty rfl rfl rfl rfl rfl fun i => by simp [Head.reset, Head.site, Site.reset]
  | deviceReset => exact .of_empty rfl rfl rfl rfl rfl fun i => by simp [Head.deviceReset, Head.reset, Head.site, Site.reset]

/-! ### The Analysis Queue and the arbiter's count -/

/-- The Analysis Queue within its size and the arbiter's count within its bound (R114, R116). -/
def State.SharedFits (s : State) : Prop :=
  s.analysis.length ≤ Config.analysisQueueSize ∧ s.arbiterCount ≤ Config.itemsPerJob

theorem State.Move.sharedFits {c : Instr} {s t : State} (hm : State.Move c s t) (h : s.SharedFits) : t.SharedFits := by
  have hclose (u : State) (k : HeadId) (loss : Option LossCause) (hu : u.SharedFits) : (u.close k loss).SharedFits := by
    unfold State.SharedFits
    rw [u.close_frame k loss]
    exact ⟨(List.length_filter_le _ _).trans hu.1, hu.2⟩
  cases hm with
  | lane h' _ hm =>
    cases hm with
    | enqueue it _ _ hroom => exact ⟨by simpa using hroom, h.2⟩
    | endAccess =>
      unfold State.SharedFits
      rw [State.endAccess_frame]
      exact h
    | _ => exact h
  | buffer _ _ _ hm => cases hm; exact h
  | lost k _ hm =>
    cases hm with
    | mk g f loss => exact hclose (s.updHead k g) k _ h
  | headReset k => exact hclose s k none h
  | elapse => exact h
  | shared _ _ _ hframe => rw [hframe]; exact h
  | openSegment => exact ⟨(List.length_filter_le _ _).trans h.1, h.2⟩
  | reserve => exact h
  | takeItem it rest _ hq =>
    have hlen := h.1
    rw [hq, List.length_cons] at hlen
    exact ⟨(Nat.le_succ _).trans hlen, Nat.min_le_right _ _⟩
  | dropItem it rest _ hq =>
    have hlen := h.1
    rw [hq, List.length_cons] at hlen
    exact ⟨(Nat.le_succ _).trans hlen, Nat.min_le_right _ _⟩
  | takeJob => exact ⟨h.1, Nat.zero_le _⟩
  | idle => exact h
  | finishJob => exact h
  | linkLoss => exact h
  | powerOn => exact ⟨Nat.zero_le _, Nat.zero_le _⟩
  | deviceReset => exact ⟨Nat.zero_le _, Nat.zero_le _⟩

/-! ### The lane buffer (R34, R35) -/

/-- The lane buffer and the record under reception within their sizes (R34). -/
structure Head.BufferFits (hd : Head) : Prop where
  records : hd.bufferRecords ≤ Config.laneRecords
  entries : hd.bufferEntries ≤ Config.laneEntries

/-- The lane of two heads is in the same state. -/
structure Head.SameLane (hd hd' : Head) : Prop where
  laneBuffer : hd'.laneBuffer = hd.laneBuffer := by rfl
  reception : hd'.reception = hd.reception := by rfl
  laneHeld : hd'.laneHeld = hd.laneHeld := by rfl

theorem Head.SameLane.trans {hd hd' hd'' : Head} (h1 : hd.SameLane hd') (h2 : hd'.SameLane hd'') : hd.SameLane hd'' :=
  ⟨h2.1.trans h1.1, h2.2.trans h1.2, h2.3.trans h1.3⟩

/-- A lane whose buffer fits and that is held exactly when its buffer calls for it (R34, R35). -/
def Head.LaneInv (hd : Head) : Prop := hd.BufferFits ∧ hd.laneHeld = hd.holdDue

theorem Head.capacityInv_iff (hd : Head) : hd.CapacityInv ↔ hd.CountsInv ∧ hd.LaneInv := by
  constructor
  · rintro ⟨h1, h2, h3, h4, h5, h6, h7, h8, h9⟩
    exact ⟨⟨h1, h2, h3, h7, h8, h9⟩, ⟨h4, h5⟩, h6⟩
  · rintro ⟨⟨h1, h2, h3, h7, h8, h9⟩, ⟨h4, h5⟩, h6⟩
    exact ⟨h1, h2, h3, h4, h5, h6, h7, h8, h9⟩

theorem Head.SameLane.buffer_eq {hd hd' : Head} (h : hd.SameLane hd') :
    hd'.bufferRecords = hd.bufferRecords ∧ hd'.bufferEntries = hd.bufferEntries ∧ hd'.holdDue = hd.holdDue := by
  obtain ⟨hb, hr, -⟩ := h
  unfold Head.holdDue Head.bufferRecords Head.bufferEntries Head.receivedEntries
  rw [hb, hr]
  exact ⟨rfl, rfl, rfl⟩

theorem Head.SameLane.fits {hd hd' : Head} (h : hd.SameLane hd') (hf : hd.BufferFits) : hd'.BufferFits := by
  obtain ⟨h1, h2, -⟩ := h.buffer_eq
  exact ⟨h1 ▸ hf.1, h2 ▸ hf.2⟩

theorem Head.SameLane.laneInv {hd hd' : Head} (h : hd.SameLane hd') (hl : hd.LaneInv) : hd'.LaneInv := by
  obtain ⟨-, -, h3⟩ := h.buffer_eq
  exact ⟨h.fits hl.1, by rw [h.laneHeld, h3]; exact hl.2⟩

/-- A lane without records, on which at most the rest of a record is discarded. -/
theorem Head.LaneInv.of_empty {hd : Head} (hbuf : hd.laneBuffer = []) (hrec : ∀ n, hd.reception ≠ some (.receiving n))
    (hheld : hd.laneHeld = false) : hd.LaneInv := by
  have hrecords : hd.bufferRecords = 0 := by
    unfold Head.bufferRecords
    rw [hbuf]
    split
    · rename_i n hn
      exact absurd hn (hrec n)
    · rfl
  have hreceived : hd.receivedEntries = 0 := by
    unfold Head.receivedEntries
    split
    · rename_i n hn
      exact absurd hn (hrec n)
    · rfl
  have hentries : hd.bufferEntries = 0 := by simp [Head.bufferEntries, hbuf, hreceived]
  refine ⟨⟨by simp [hrecords], by simp [hentries]⟩, ?_⟩
  rw [hheld]
  simp [Head.holdDue, hrecords, hentries, Config.laneRecords, Config.laneEntries]

theorem Head.Step.sameLane {hd hd' : Head} (hm : hd.Step hd') : hd.SameLane hd' := by
  cases hm with
  | tweak ht => exact ⟨ht.laneBuffer, ht.reception, ht.laneHeld⟩
  | _ => exact {}

/-- Without a step on the lane buffer, a head's lane stays as it was or is emptied. -/
theorem Head.Change.laneInv {c : Instr} {hd hd' : Head} (hm : hd.Change c hd') (hc : Instr.handlesRecords c = false)
    (h : hd.LaneInv) : hd'.LaneInv := by
  have hcut (r : Option Reception) (n : Nat) : r.map (fun _ => Reception.discarding) ≠ some (.receiving n) := by
    cases r <;> simp
  cases hm with
  | step hm => exact hm.sameLane.laneInv h
  | buffer hr => rw [hc] at hr; cases hr
  | drained => exact Head.SameLane.laneInv {} h
  | slot => exact Head.SameLane.laneInv {} h
  | lost k f loss x _ hk hf hreception =>
    refine .of_empty (by rw [hf]; rfl) (fun n => ?_) (by rw [hf]; rfl)
    rcases hreception ((k hd).closed (some loss)) with hr | hr
    · rw [hr]
      exact hcut _ n
    · simp [hr]
  | headReset => exact .of_empty rfl (hcut _) rfl
  | openSegment => exact Head.SameLane.laneInv {} h
  | finishJob j found last =>
    rw [Head.finishJob_frame]
    exact Head.SameLane.laneInv {} h
  | powerOn => exact .of_empty rfl (by simp [Head.reset]) rfl
  | deviceReset => exact .of_empty rfl (hcut _) rfl

/-! ### The commands that handle records -/

/-- Outside the moves on lane buffers the lane of every head stays as it is. -/
theorem State.LaneMoves.sameLane {h : HeadId} {s t : State} (hm : State.LaneMoves h s t) (k : HeadId) :
    (s.head k).SameLane (t.head k) := by
  have hstep {u v : State} (hm : State.LaneMove h u v) : (u.head k).SameLane (v.head k) := by
    cases hm with
    | head f hf =>
      exact State.forall_head_updHead (p := fun k hd => (u.head k).SameLane hd) hf.sameLane (fun _ _ => {}) k
    | notice => exact {}
    | free => exact {}
    | enqueue => exact {}
    | drain =>
      by_cases hk : k = h
      · subst hk
        rw [State.head_drainedState_self]
        exact {}
      · rw [u.onlyHead_drainedState h k hk]
        exact {}
    | endAccess a st body =>
      by_cases hk : k = h
      · subst hk
        rw [State.head_endAccess_self]
        exact {}
      · rw [u.onlyHead_endAccess h st body k hk]
        exact {}
  induction hm with
  | refl => exact {}
  | tail _ hmove ih => exact ih.trans (hstep hmove)

theorem State.LaneMove.onlyHead {h : HeadId} {s t : State} (hm : State.LaneMove h s t) : s.onlyHead t h := by
  cases hm with
  | head f => exact State.onlyHead_updHead s h f
  | notice => exact fun _ _ => rfl
  | free => exact fun _ _ => rfl
  | enqueue => exact fun _ _ => rfl
  | drain => exact s.onlyHead_drainedState h
  | endAccess => exact s.onlyHead_endAccess h _ _

theorem State.LaneMoves.onlyHead {h : HeadId} {s t : State} (hm : State.LaneMoves h s t) : s.onlyHead t h := by
  induction hm with
  | refl => exact fun _ _ => rfl
  | tail _ hmove ih => exact ih.trans hmove.onlyHead

theorem State.RecordMoves.onlyHead {h : HeadId} {s t : State} (hm : State.RecordMoves h s t) : s.onlyHead t h := by
  induction hm with
  | refl => exact fun _ _ => rfl
  | tail _ hmove ih =>
    rcases hmove with hlane | hbuffer
    · exact ih.trans hlane.onlyHead
    · cases hbuffer
      exact ih.trans (State.onlyHead_updHead _ h _)

theorem Head.laneBuffer_refreshHold (hd : Head) :
    hd.refreshHold.laneBuffer = hd.laneBuffer ∧ hd.refreshHold.reception = hd.reception
      ∧ hd.refreshHold.laneHeld = hd.holdDue := by
  unfold Head.refreshHold
  split
  · rename_i heq
    exact ⟨rfl, rfl, heq.symm⟩
  · exact ⟨rfl, rfl, rfl⟩

/-- After a lane is settled it is held exactly when its buffer, which stays, calls for it (R35). -/
theorem State.settleLane_laneInv {s : State} {h : HeadId} (hf : (s.head h).BufferFits) :
    ((s.settleLane h).head h).LaneInv := by
  have hsame := (State.settleDeadlines_moves (s.updHead h Head.refreshHold) h)
  obtain ⟨hbuf, hrec, hheld⟩ := (s.head h).laneBuffer_refreshHold
  refine (State.LaneMoves.sameLane hsame h).laneInv ?_
  rw [State.head_updHead_self]
  have hsame : ({ s.head h with laneHeld := (s.head h).holdDue } : Head).SameLane (s.head h).refreshHold :=
    ⟨hbuf, hrec, hheld⟩
  exact hsame.laneInv ⟨⟨hf.1, hf.2⟩, rfl⟩

/-- The lane buffer has not grown, and the record under reception is the same. -/
structure Head.Lighter (hd hd' : Head) : Prop where
  reception : hd'.reception = hd.reception
  records : hd'.laneBuffer.length ≤ hd.laneBuffer.length
  entries : (hd'.laneBuffer.map BufferedRecord.entryCount).sum ≤ (hd.laneBuffer.map BufferedRecord.entryCount).sum

theorem Head.Lighter.refl (hd : Head) : hd.Lighter hd := ⟨rfl, Nat.le_refl _, Nat.le_refl _⟩

theorem Head.Lighter.trans {hd hd' hd'' : Head} (h1 : hd.Lighter hd') (h2 : hd'.Lighter hd'') : hd.Lighter hd'' :=
  ⟨h2.1.trans h1.1, h2.2.trans h1.2, h2.3.trans h1.3⟩

theorem Head.SameLane.lighter {hd hd' : Head} (h : hd.SameLane hd') : hd.Lighter hd' :=
  ⟨h.reception, by rw [h.laneBuffer], by rw [h.laneBuffer]⟩

theorem Head.Lighter.fits {hd hd' : Head} (h : hd.Lighter hd') (hf : hd.BufferFits) : hd'.BufferFits := by
  obtain ⟨hr, hl, he⟩ := h
  obtain ⟨h1, h2⟩ := hf
  unfold Head.bufferRecords at h1
  unfold Head.bufferEntries Head.receivedEntries at h2
  refine ⟨?_, ?_⟩
  · unfold Head.bufferRecords
    rw [hr]
    exact (Nat.add_le_add_right hl _).trans h1
  · unfold Head.bufferEntries Head.receivedEntries
    rw [hr]
    exact (Nat.add_le_add_right he _).trans h2

theorem State.LaneMoves.lighter {h : HeadId} {s t : State} (hm : State.LaneMoves h s t) :
    (s.head h).Lighter (t.head h) := (State.LaneMoves.sameLane hm h).lighter

theorem sum_entryCount_tail_le (l : List BufferedRecord) :
    (l.tail.map BufferedRecord.entryCount).sum ≤ (l.map BufferedRecord.entryCount).sum := by
  cases l <;> simp

theorem sum_entryCount_dropSection_le (l : List BufferedRecord) :
    ((dropSection l).map BufferedRecord.entryCount).sum ≤ (l.map BufferedRecord.entryCount).sum := by
  obtain _ | ⟨⟨tag, secs⟩, l⟩ := l
  · exact Nat.le_refl _
  · cases secs <;> simp [dropSection, BufferedRecord.entryCount]

theorem sum_entryCount_dropEntry_le (l : List BufferedRecord) :
    ((dropEntry l).map BufferedRecord.entryCount).sum ≤ (l.map BufferedRecord.entryCount).sum := by
  obtain _ | ⟨⟨tag, _ | ⟨sec, secs⟩⟩, l⟩ := l
  · exact Nat.le_refl _
  · exact Nat.le_refl _
  · simp [dropEntry, BufferedRecord.entryCount]

theorem length_dropSection (l : List BufferedRecord) : (dropSection l).length = l.length := by
  simpa using congrArg List.length (dropSection_tags l)

theorem length_dropEntry (l : List BufferedRecord) : (dropEntry l).length = l.length := by
  simpa using congrArg List.length (dropEntry_tags l)

theorem State.lighter_updHead {s : State} {h : HeadId} {f : Head → Head} (hf : (s.head h).Lighter (f (s.head h))) :
    (s.head h).Lighter ((s.updHead h f).head h) := by
  rwa [State.head_updHead_self]

theorem State.passEmptySection_lighter (s : State) (h : HeadId) (i : SiteId) :
    (s.head h).Lighter ((s.passEmptySection h i).head h) := by
  have hdrop := State.lighter_updHead (s := s) (h := h) (f := fun hd => { hd with laneBuffer := dropSection hd.laneBuffer })
    ⟨rfl, (length_dropSection _).le, sum_entryCount_dropSection_le _⟩
  unfold State.passEmptySection
  dsimp only
  split
  · exact hdrop
  · split_ifs
    · exact hdrop
    · exact hdrop.trans (State.lighter_updHead (f := fun hd => { hd with strays := satSucc Config.countTop hd.strays })
        ⟨rfl, Nat.le_refl _, Nat.le_refl _⟩)
    · exact hdrop

theorem State.completeRecord_lighter (s : State) (h : HeadId) : (s.head h).Lighter ((s.completeRecord h).head h) := by
  unfold State.completeRecord
  refine Head.Lighter.trans ?_ (State.testDrain_moves _ h).lighter
  rw [State.head_updHead_self]
  exact ⟨rfl, by simp, sum_entryCount_tail_le _⟩

theorem State.advance_lighter (n : Nat) (s : State) (h : HeadId) : (s.head h).Lighter ((State.advance n s h).head h) := by
  induction n generalizing s with
  | zero => exact .refl _
  | succ n ih =>
    unfold State.advance
    split
    · exact .refl _
    · split
      · exact (s.completeRecord_lighter h).trans (ih _)
      · split
        · exact (s.passEmptySection_lighter h _).trans (ih _)
        · exact .refl _

theorem State.settleIntake_laneInv {s : State} {h : HeadId} (hf : (s.head h).BufferFits) :
    ((s.settleIntake h).head h).LaneInv :=
  State.settleLane_laneInv ((State.advance_lighter _ s h).fits hf)

theorem State.dropFront_lighter (s : State) (h : HeadId) : (s.head h).Lighter ((s.dropFront h).head h) := by
  unfold State.dropFront
  rw [State.head_updHead_self]
  exact ⟨rfl, (length_dropEntry _).le, sum_entryCount_dropEntry_le _⟩

theorem State.intakeEntry_laneInv {s : State} {h : HeadId} (hl : (s.head h).LaneInv) (te : TrackEntry) (i : SiteId)
    (e : FailEntry) : ((s.intakeEntry h te i e).head h).LaneInv := by
  unfold State.intakeEntry
  dsimp only
  split_ifs with hbad hroom
  · exact State.settleIntake_laneInv
      (((s.dropFront_lighter h).trans (State.lose_moves _ h _ _ _).lighter).fits hl.1)
  · refine State.settleIntake_laneInv (((s.dropFront_lighter h).trans ?_).fits hl.1)
    refine State.LaneMoves.lighter (State.gates_moves h i te.logArmed _ (s.dropFront h) ?_)
    exact hroom
  · exact hl

theorem State.intake_laneInv {s : State} {h : HeadId} (hl : (s.head h).LaneInv) : ((s.intake h).head h).LaneInv := by
  unfold State.intake
  split
  · split_ifs
    · exact State.intakeEntry_laneInv hl _ _ _
    · refine State.settleIntake_laneInv (Head.Lighter.fits ?_ hl.1)
      unfold State.discardSection
      rw [State.head_updHead_self]
      exact ⟨rfl, (length_dropSection _).le, sum_entryCount_dropSection_le _⟩
  · exact hl

/-- The lane with one more fail entry counted for the record under reception (R35, R36). -/
theorem Head.BufferFits.arrive {hd : Head} (hl : hd.LaneInv) (hheld : hd.laneHeld = false) :
    { hd with reception := some (Reception.arrive hd.reception) }.BufferFits := by
  obtain ⟨⟨h1, h2⟩, h3⟩ := hl
  rw [hheld, Head.holdDue, eq_comm, Bool.or_eq_false_iff, decide_eq_false_iff_not] at h3
  obtain ⟨h3, h4⟩ := h3
  cases hr : hd.reception with
  | none =>
    simp only [Head.bufferRecords, Head.bufferEntries, Head.receivedEntries, hr, Config.laneRecords, Config.laneEntries,
      Bool.and_eq_false_iff, decide_eq_false_iff_not, bne_eq_false_iff_eq] at h3 h4
    constructor <;> simp only [Head.bufferRecords, Head.bufferEntries, Head.receivedEntries, Reception.arrive,
      Config.laneRecords, Config.laneEntries] <;> omega
  | some r =>
    cases r with
    | discarding =>
      constructor
      · simpa [Head.bufferRecords, hr, Reception.arrive] using h1
      · simpa [Head.bufferEntries, Head.receivedEntries, hr, Reception.arrive] using h2
    | receiving n =>
      simp only [Head.bufferRecords, Head.bufferEntries, Head.receivedEntries, hr, Config.laneRecords, Config.laneEntries,
        Bool.and_eq_false_iff, decide_eq_false_iff_not, bne_eq_false_iff_eq] at h1 h2 h3 h4
      have harrive : Reception.arrive (some (.receiving n)) = if 1024 ≤ n then .discarding else .receiving (n + 1) := rfl
      constructor <;> simp only [Head.bufferRecords, Head.bufferEntries, Head.receivedEntries, harrive,
        Config.laneRecords, Config.laneEntries] <;> split_ifs <;> simp only [] <;> omega

/-- The lane without the record under reception. -/
theorem Head.BufferFits.no_reception {hd : Head} (hf : hd.BufferFits) : { hd with reception := none }.BufferFits := by
  obtain ⟨h1, h2⟩ := hf
  exact ⟨(Nat.le_add_right hd.laneBuffer.length _).trans h1,
    (Nat.le_add_right (hd.laneBuffer.map BufferedRecord.entryCount).sum _).trans h2⟩

/-- A record that passes its framing check, and whose end the lane lets arrive, finds its place (R34 to R36). -/
theorem Head.BufferFits.accept {hd : Head} {unit : List Byte} {secs : List RecordSection} {tag : Byte} (hl : hd.LaneInv)
    (hend : hd.letsEnd unit = true) (hdis : hd.reception ≠ some .discarding) (hlen : 3 ≤ unit.length)
    (hcount : countEntries hd.setup.checkMode unit ≤ Config.laneEntries)
    (hread : readRecord hd.setup.checkMode unit = some secs) {hd' : Head} (hrec : hd'.reception = none)
    (hbuf : hd'.laneBuffer = hd.laneBuffer ++ [⟨tag, secs⟩]) : hd'.BufferFits := by
  obtain ⟨⟨h1, h2⟩, h3⟩ := hl
  have hentries := countEntries_of_readRecord hlen hread
  have hrecords' : hd'.bufferRecords = hd.laneBuffer.length + 1 := by
    unfold Head.bufferRecords
    rw [hrec, hbuf]
    simp
  have hentries' : hd'.bufferEntries
      = (hd.laneBuffer.map BufferedRecord.entryCount).sum + countEntries hd.setup.checkMode unit := by
    unfold Head.bufferEntries Head.receivedEntries
    rw [hrec, hbuf, hentries]
    simp [BufferedRecord.entryCount]
  simp only [Head.letsEnd, Bool.and_eq_true, Bool.or_eq_true, beq_iff_eq, Head.letsPass, decide_eq_true_eq,
    Bool.not_eq_true'] at hend
  obtain ⟨⟨-, hheld⟩, hpass⟩ := hend
  have hpass := hpass.resolve_left hdis
  rw [hheld, Head.holdDue, eq_comm, Bool.or_eq_false_iff, decide_eq_false_iff_not] at h3
  obtain ⟨h3, -⟩ := h3
  simp only [Head.bufferRecords, Head.bufferEntries, Head.receivedEntries, Config.laneRecords, Config.laneEntries]
    at h1 h2 h3 hpass hcount
  constructor
  · rw [hrecords', Config.laneRecords]
    cases hr : hd.reception with
    | none => simp only [hr] at h3; omega
    | some r =>
      cases r with
      | discarding => exact absurd hr hdis
      | receiving n => simp only [hr] at h1; omega
  · rw [hentries', Config.laneEntries]
    cases hr : hd.reception with
    | none => simp only [hr] at hpass h2; omega
    | some r =>
      cases r with
      | discarding => exact absurd hr hdis
      | receiving n => simp only [hr] at hpass h2; omega

/-- The head on which a record has been matched and waits in the lane buffer (R87, R91). -/
def Head.takeRecord (hd : Head) (m : Matched) (tag : Byte) (secs : List RecordSection) : Head :=
  { hd with
    tracking := m.answered ++ { m.entry with deadline := .answered } :: m.later
    laneBuffer := hd.laneBuffer ++ [⟨tag, secs⟩] }

theorem State.acceptRecord_laneInv {s : State} {h : HeadId} {m : Matched} {overflow : Bool} {tag : Byte}
    {secs : List RecordSection} (hf : ((s.head h).takeRecord m tag secs).BufferFits) :
    ((s.acceptRecord h m overflow tag secs).head h).LaneInv := by
  have hself := State.head_updHead_self s h (fun hd => hd.takeRecord m tag secs)
  unfold State.acceptRecord
  refine State.settleIntake_laneInv (Head.Lighter.fits ?_ (hself ▸ hf))
  split_ifs
  · exact (State.settleDeadlines_moves _ h).lighter.trans (State.lose_moves _ h _ _ _).lighter
  · exact (State.settleDeadlines_moves _ h).lighter

theorem State.offerRecord_fits {s : State} {h : HeadId} {unit : List Byte} (hf : (s.head h).BufferFits)
    (haccept : ∀ secs, readRecord (s.head h).setup.checkMode unit = some secs → ∀ (hd' : Head) (tag : Byte),
      hd'.reception = (s.head h).reception → hd'.laneBuffer = (s.head h).laneBuffer ++ [⟨tag, secs⟩] → hd'.BufferFits) :
    ((s.offerRecord h unit).head h).BufferFits := by
  have hstray : ((s.stray h).head h).BufferFits := (State.countStray_moves s h).lighter.fits hf
  unfold State.offerRecord
  dsimp only
  split
  · split
    · exact hstray
    · rename_i m hm
      rw [← State.tracking_skipAhead s h m.skipped] at hm
      have hskip := State.LaneMoves.sameLane (State.skipAhead_moves s h m.skipped) h
      split
      · exact (State.framingFailure_moves hm).lighter.fits (hskip.fits hf)
      · rename_i secs hsecs
        refine (State.acceptRecord_laneInv ?_).1
        exact haccept secs hsecs _ _ hskip.reception (congrArg (· ++ _) hskip.laneBuffer)
  · exact hstray

theorem State.endRecord_fits {s : State} {h : HeadId} {unit : List Byte} (hl : (s.head h).LaneInv)
    (hend : (s.head h).letsEnd unit = true) : ((s.endRecord h unit).head h).BufferFits := by
  have hself := State.head_updHead_self s h (fun hd => { hd with reception := none })
  have hended : ((s.updHead h (fun hd => { hd with reception := none })).head h).BufferFits := by
    rw [hself]
    exact hl.1.no_reception
  unfold State.endRecord
  dsimp only
  split_ifs with hskip
  · exact hended
  · rw [not_or, not_or, Nat.not_lt, Nat.not_lt] at hskip
    obtain ⟨hdis, hlen, hcount⟩ := hskip
    refine State.offerRecord_fits hended fun secs hread hd' tag hrec hbuf => ?_
    rw [hself] at hread hrec hbuf
    exact Head.BufferFits.accept hl hend hdis hlen hcount hread hrec hbuf

/-! ### Every command -/

theorem State.onlyHead.laneInv {s t : State} {h : HeadId} (ho : s.onlyHead t h) (hself : (t.head h).LaneInv)
    (hs : ∀ k, (s.head k).LaneInv) (k : HeadId) : (t.head k).LaneInv := by
  by_cases hk : k = h
  · exact hk ▸ hself
  · rw [ho k hk]
    exact hs k

theorem exec_laneInv {c : Instr} {s t : State} (he : exec c s = .next t) (hs : ∀ k, (s.head k).LaneInv) :
    ∀ k, (t.head k).LaneInv := by
  cases hc : Instr.handlesRecords c with
  | false => exact exec_keeps_heads (fun _ _ hm h => hm.laneInv hc h) he hs
  | true =>
    cases c with
    | laneSignalLoss h =>
      change execLaneSignalLoss h s = .next t at he
      unfold execLaneSignalLoss at he
      dsimp only at he
      split_ifs at he <;> cases he
      · have hmoves := State.laneLoss_moves (c := .headStart) (s := s) (h := h) (fun hd => { hd with laneSignal := false })
          (.inl rfl) {}
        exact hmoves.keeps (P := fun u => ∀ k, (u.head k).LaneInv) (fun _ _ hm hu k => (hm.change k).laneInv rfl (hu k)) hs
      · refine State.onlyHead.laneInv (h := h) (((State.onlyHead_updHead s h _).trans (State.onlyHead_updHead _ h _)).trans
          (State.RecordMoves.onlyHead (State.settleLane_moves _ h))) (State.settleLane_laneInv ?_) hs
        rw [State.head_updHead_self, State.head_updHead_self]
        exact ⟨(hs h).1.no_reception.1, (hs h).1.no_reception.2⟩
      · exact hs
    | resultRecord h unit =>
      change execResultRecord h unit s = .next t at he
      unfold execResultRecord at he
      split_ifs at he with hend <;> cases he
      · exact State.onlyHead.laneInv (h := h) ((State.endRecord_moves s h unit).onlyHead.trans
          (State.RecordMoves.onlyHead (State.settleLane_moves _ h)))
          (State.settleLane_laneInv (State.endRecord_fits (hs h) hend)) hs
      · exact hs
    | failEntryAdmit h =>
      cases he
      exact State.onlyHead.laneInv (h := h) (State.RecordMoves.onlyHead (State.intake_moves s h))
        (State.intake_laneInv (hs h)) hs
    | failEntryArrival h =>
      change execFailEntryArrival h s = .next t at he
      unfold execFailEntryArrival at he
      split_ifs at he with hopen <;> cases he
      · refine State.onlyHead.laneInv (h := h) ((State.onlyHead_updHead s h _).trans
          (State.RecordMoves.onlyHead (State.settleLane_moves _ h))) (State.settleLane_laneInv ?_) hs
        rw [State.head_updHead_self]
        exact Head.BufferFits.arrive (hs h) (Bool.eq_false_of_not_eq_true hopen.2)
      · exact hs
    | _ => cases hc

/-- Settles O53: by the moves of the commands for queues and counts; a lane buffer grows by RESULT_RECORD and
FAIL_ENTRY_ARRIVAL alone, which find the lane released, and settling the lane holds it exactly when it must be. -/
theorem stepKeepsTheCapacities : Obligations.StepKeepsTheCapacities := by
  have hsplit (u : State) : u.CapacityInv ↔ ((∀ k, (u.head k).CountsInv) ∧ u.SharedFits) ∧ ∀ k, (u.head k).LaneInv := by
    constructor
    · rintro ⟨h1, h2, h3⟩
      exact ⟨⟨fun k => ((Head.capacityInv_iff _).mp (h1 k)).1, h2, h3⟩, fun k => ((Head.capacityInv_iff _).mp (h1 k)).2⟩
    · rintro ⟨⟨h1, h2, h3⟩, h4⟩
      exact ⟨fun k => (Head.capacityInv_iff _).mpr ⟨h1 k, h4 k⟩, h2, h3⟩
  have htime (u : State) (k : HeadId) : (u.head k).Step ((u.elapse 1).head k) := by
    rw [State.head_elapse]
    exact .tweak ((u.head k).tweak_elapse 1)
  intro s t hs he
  rw [hsplit] at hs ⊢
  refine step_keeps_of_exec (P := fun u => ((∀ k, (u.head k).CountsInv) ∧ u.SharedFits) ∧ ∀ k, (u.head k).LaneInv)
    (fun _ _ h => h) (fun u h => ?_) (fun c u v he h => ⟨?_, exec_laneInv he h.2⟩) hs he
  · exact ⟨⟨fun k => (htime u k).counts (h.1.1 k), h.1.2⟩, fun k => (htime u k).sameLane.laneInv (h.2 k)⟩
  · exact (exec_moves he).keeps (P := fun u => (∀ k, (u.head k).CountsInv) ∧ u.SharedFits)
      (fun _ _ hm h => ⟨fun k => (hm.change k).counts (h.1 k), hm.sharedFits h.2⟩) h.1

end Sys2Proof.Machine
end

section
/-! The must-repair analysis (7.4): what it keeps of a Block Record, and why a rejection is right. -/

namespace Sys2Proof.Machine

/-! ### Counts and lines -/

/-- No line holds more fails than the spares of the other kind that are left (R126). -/
structure Block.NoMust (g : Geometry) (b : Block) : Prop where
  rows : ∀ r, b.rowCount r ≤ b.colsLeft g
  cols : ∀ c, b.colCount c ≤ b.rowsLeft g

theorem Block.must_row_iff (g : Geometry) (b : Block) (r : Nat) :
    b.must g (.row r) = true ↔ b.colsLeft g < b.rowCount r := by simp [Block.must]

theorem Block.must_col_iff (g : Geometry) (b : Block) (c : Nat) :
    b.must g (.col c) = true ↔ b.rowsLeft g < b.colCount c := by simp [Block.must]

theorem Block.rowCount_pos_iff (b : Block) (r : Nat) : 0 < b.rowCount r ↔ ∃ e ∈ b.fails, e.row = r := by
  simp [Block.rowCount, List.countP_pos_iff]

theorem Block.colCount_pos_iff (b : Block) (c : Nat) : 0 < b.colCount c ↔ ∃ e ∈ b.fails, e.col = c := by
  simp [Block.colCount, List.countP_pos_iff]

/-- What a Block Record says of its fails depends on their cells alone. -/
theorem Block.rowCount_eq (b : Block) (r : Nat) :
    b.rowCount r = (b.fails.map (fun e => (e.row, e.col))).countP (fun p => p.1 == r) := by
  rw [List.countP_map]
  rfl

theorem Block.colCount_eq (b : Block) (c : Nat) :
    b.colCount c = (b.fails.map (fun e => (e.row, e.col))).countP (fun p => p.2 == c) := by
  rw [List.countP_map]
  rfl

/-- Two Block Records with the same committed lines and the same cells. -/
structure Block.SameCells (b b' : Block) : Prop where
  rows : b'.rows = b.rows := by rfl
  cols : b'.cols = b.cols := by rfl
  cells : b'.fails.map (fun e => (e.row, e.col)) = b.fails.map (fun e => (e.row, e.col)) := by rfl

theorem Block.SameCells.length {b b' : Block} (h : b.SameCells b') : b'.fails.length = b.fails.length := by
  simpa using congrArg List.length h.cells

theorem Block.SameCells.sound {g : Geometry} {b b' : Block} (h : b.SameCells b') (hs : b.Sound g) : b'.Sound g := by
  refine ⟨h.rows ▸ hs.rows, h.cols ▸ hs.cols, h.rows ▸ hs.rowsDistinct, h.cols ▸ hs.colsDistinct, h.cells ▸ hs.cells,
    fun e he => ?_⟩
  have hmem : (e.row, e.col) ∈ b.fails.map (fun e => (e.row, e.col)) := h.cells ▸ List.mem_map_of_mem he
  obtain ⟨x, hx, heq⟩ := List.mem_map.mp hmem
  obtain ⟨hrow, hcol⟩ := Prod.mk.inj heq
  rw [h.rows, h.cols, ← hrow, ← hcol]
  exact hs.uncovered x hx

theorem Block.SameCells.atRest {g : Geometry} {b b' : Block} (h : b.SameCells b') (hr : b.AtRest g) : b'.AtRest g := by
  have hleft : b'.rowsLeft g = b.rowsLeft g ∧ b'.colsLeft g = b.colsLeft g := by
    simp [Block.rowsLeft, Block.colsLeft, h.rows, h.cols]
  refine ⟨h.sound hr.sound, fun r => ?_, fun c => ?_, ?_⟩
  · rw [hleft.2, Block.rowCount_eq, h.cells, ← Block.rowCount_eq]
    exact hr.rowCounts r
  · rw [hleft.1, Block.colCount_eq, h.cells, ← Block.colCount_eq]
    exact hr.colCounts c
  · rw [hleft.1, hleft.2, h.length]
    exact hr.bound

theorem Block.AtRest.noMust {g : Geometry} {b : Block} (h : b.AtRest g) : b.NoMust g := ⟨h.rowCounts, h.colCounts⟩

/-! ### Covers -/

/-- A line with more fails than a cover has lines of the other kind is in the cover: its fails lie on distinct lines of
that kind. -/
theorem length_le_of_cover {fails : List FailListEntry} {lines : List Nat} {f : FailListEntry → Nat}
    {p : FailListEntry → Bool} (hinj : ((fails.filter p).map f).Nodup) (hcover : ∀ e ∈ fails, p e = true → f e ∈ lines) :
    fails.countP p ≤ lines.length := by
  have hsub : ∀ x ∈ (fails.filter p).map f, x ∈ lines := by
    intro x hx
    obtain ⟨e, he, rfl⟩ := List.mem_map.mp hx
    obtain ⟨hmem, hp⟩ := List.mem_filter.mp he
    exact hcover e hmem hp
  have hle := (List.subperm_of_subset hinj hsub).length_le
  rwa [List.length_map, ← List.countP_eq_length_filter] at hle

/-- Distinct cells on one row lie on distinct column lines. -/
theorem nodup_cols_of_row {fails : List FailListEntry} (hcells : (fails.map (fun e => (e.row, e.col))).Nodup) (r : Nat) :
    ((fails.filter (fun e => e.row == r)).map FailListEntry.col).Nodup := by
  refine List.Nodup.of_map (fun c => (r, c)) ?_
  have heq : ((fails.filter (fun e => e.row == r)).map FailListEntry.col).map (fun c => (r, c))
      = (fails.filter (fun e => e.row == r)).map (fun e => (e.row, e.col)) := by
    rw [List.map_map]
    refine List.map_congr_left fun e he => ?_
    have hrow : e.row = r := by simpa using (List.mem_filter.mp he).2
    rw [← hrow]
    rfl
  rw [heq]
  exact hcells.sublist (List.filter_sublist.map _)

theorem nodup_rows_of_col {fails : List FailListEntry} (hcells : (fails.map (fun e => (e.row, e.col))).Nodup) (c : Nat) :
    ((fails.filter (fun e => e.col == c)).map FailListEntry.row).Nodup := by
  refine List.Nodup.of_map (fun r => (r, c)) ?_
  have heq : ((fails.filter (fun e => e.col == c)).map FailListEntry.row).map (fun r => (r, c))
      = (fails.filter (fun e => e.col == c)).map (fun e => (e.row, e.col)) := by
    rw [List.map_map]
    refine List.map_congr_left fun e he => ?_
    have hcol : e.col = c := by simpa using (List.mem_filter.mp he).2
    rw [← hcol]
    rfl
  rw [heq]
  exact hcells.sublist (List.filter_sublist.map _)

/-- The line is one of a choice of rows and column lines. -/
def Line.isIn (rows cols : List Nat) : Line → Prop
  | .row r => r ∈ rows
  | .col c => c ∈ cols

/-- A must line is in every cover within the spares that are left (7.4). -/
theorem Block.Sound.mem_cover {g : Geometry} {b : Block} (hs : b.Sound g) {ln : Line} (hm : b.must g ln = true)
    {rows cols : List Nat} (hrows : rows.length ≤ b.rowsLeft g) (hcols : cols.length ≤ b.colsLeft g)
    (hcover : coversAll rows cols b.fails) : ln.isIn rows cols := by
  by_contra hn
  cases ln with
  | row r =>
    rw [Block.must_row_iff] at hm
    refine absurd (length_le_of_cover (nodup_cols_of_row hs.cells r) (lines := cols) fun e he hp => ?_)
      (Nat.not_le.mpr (hcols.trans_lt hm))
    have hrow : e.row = r := by simpa using hp
    exact (hcover e he).resolve_left (hrow ▸ hn)
  | col c =>
    rw [Block.must_col_iff] at hm
    refine absurd (length_le_of_cover (nodup_rows_of_col hs.cells c) (lines := rows) fun e he hp => ?_)
      (Nat.not_le.mpr (hrows.trans_lt hm))
    have hcol : e.col = c := by simpa using hp
    exact (hcover e he).resolve_right (hcol ▸ hn)

theorem countP_or_le {α : Type} (p q : α → Bool) (l : List α) :
    l.countP (fun x => p x || q x) ≤ l.countP p + l.countP q := by
  induction l with
  | nil => simp
  | cons x l ih =>
    simp only [List.countP_cons, Bool.or_eq_true]
    cases p x <;> cases q x <;> simp <;> omega

/-- Lines that hold few fails each cover few fails together. -/
theorem countP_mem_le {fails : List FailListEntry} {f : FailListEntry → Nat} {n : Nat}
    (hn : ∀ x, fails.countP (fun e => f e == x) ≤ n) (lines : List Nat) :
    fails.countP (fun e => lines.contains (f e)) ≤ lines.length * n := by
  induction lines with
  | nil => simp
  | cons x lines ih =>
    have hsplit := countP_or_le (fun e => f e == x) (fun e => lines.contains (f e)) fails
    simp only [List.contains_cons]
    rw [List.length_cons, Nat.add_mul, Nat.one_mul, Nat.add_comm]
    exact hsplit.trans (Nat.add_le_add (hn x) ih)

/-- A list without must lines that can be covered is within the bound of the bound test (R129). -/
theorem Block.NoMust.length_le {g : Geometry} {b : Block} (hn : b.NoMust g) (hr : b.repairable g b.fails) :
    b.fails.length ≤ 2 * b.rowsLeft g * b.colsLeft g := by
  obtain ⟨rows, cols, hrows, hcols, hcover⟩ := hr
  have hall : b.fails.countP (fun e => rows.contains e.row || cols.contains e.col) = b.fails.length := by
    rw [List.countP_eq_length]
    intro e he
    simpa using hcover e he
  calc b.fails.length
      = b.fails.countP (fun e => rows.contains e.row || cols.contains e.col) := hall.symm
    _ ≤ b.fails.countP (fun e => rows.contains e.row) + b.fails.countP (fun e => cols.contains e.col) :=
        countP_or_le _ _ _
    _ ≤ rows.length * b.colsLeft g + cols.length * b.rowsLeft g :=
        Nat.add_le_add (countP_mem_le hn.rows rows) (countP_mem_le hn.cols cols)
    _ ≤ b.rowsLeft g * b.colsLeft g + b.colsLeft g * b.rowsLeft g :=
        Nat.add_le_add (Nat.mul_le_mul_right _ hrows) (Nat.mul_le_mul_right _ hcols)
    _ = 2 * b.rowsLeft g * b.colsLeft g := by ring

/-! ### The commitment of a line (R126) -/

theorem Block.spareFor_iff (g : Geometry) (b : Block) (ln : Line) :
    b.spareFor g ln = true ↔ match ln with
      | .row _ => 0 < b.rowsLeft g
      | .col _ => 0 < b.colsLeft g := by
  cases ln <;> simp [Block.spareFor, Block.rowsLeft, Block.colsLeft]

theorem Block.Sound.commit {g : Geometry} {b : Block} (hs : b.Sound g) {ln : Line} (hm : b.must g ln = true)
    (hspare : b.spareFor g ln = true) : (b.commit ln).Sound g := by
  obtain ⟨h1, h2, h3, h4, h5, h6⟩ := hs
  cases ln with
  | row r =>
    obtain ⟨e, he, hrow⟩ := (b.rowCount_pos_iff r).mp (Nat.zero_lt_of_lt ((b.must_row_iff g r).mp hm))
    refine ⟨by simpa [Block.commit, Block.spareFor] using hspare, h2, ?_, h4, h5.sublist (List.filter_sublist.map _),
      fun x hx => ?_⟩
    · exact List.Nodup.append h3 (List.nodup_singleton r) (by simpa [hrow] using (h6 e he).1)
    · obtain ⟨hmem, hne⟩ := List.mem_filter.mp hx
      refine ⟨?_, (h6 x hmem).2⟩
      simpa [Block.commit] using ⟨(h6 x hmem).1, by simpa using hne⟩
  | col c =>
    obtain ⟨e, he, hcol⟩ := (b.colCount_pos_iff c).mp (Nat.zero_lt_of_lt ((b.must_col_iff g c).mp hm))
    refine ⟨h1, by simpa [Block.commit, Block.spareFor] using hspare, h3, ?_, h5.sublist (List.filter_sublist.map _),
      fun x hx => ?_⟩
    · exact List.Nodup.append h4 (List.nodup_singleton c) (by simpa [hcol] using (h6 e he).2)
    · obtain ⟨hmem, hne⟩ := List.mem_filter.mp hx
      refine ⟨(h6 x hmem).1, ?_⟩
      simpa [Block.commit] using ⟨(h6 x hmem).2, by simpa using hne⟩

/-- The commitment of a must line leaves the rest of a cover to the spares that are left then. -/
theorem Block.Sound.repairable_commit {g : Geometry} {b : Block} (hs : b.Sound g) {ln : Line}
    (hm : b.must g ln = true) (hr : b.repairable g b.fails) : (b.commit ln).repairable g (b.commit ln).fails := by
  obtain ⟨rows, cols, hrows, hcols, hcover⟩ := hr
  have hin := hs.mem_cover hm hrows hcols hcover
  cases ln with
  | row r =>
    refine ⟨rows.erase r, cols, ?_, hcols, fun e he => ?_⟩
    · rw [List.length_erase_of_mem hin]
      simp only [Block.rowsLeft, Block.commit, List.length_append, List.length_singleton] at hrows ⊢
      omega
    · obtain ⟨hmem, hne⟩ := List.mem_filter.mp he
      exact (hcover e hmem).imp_left (List.mem_erase_of_ne (by simpa using hne)).mpr
  | col c =>
    refine ⟨rows, cols.erase c, hrows, ?_, fun e he => ?_⟩
    · rw [List.length_erase_of_mem hin]
      simp only [Block.colsLeft, Block.commit, List.length_append, List.length_singleton] at hcols ⊢
      omega
    · obtain ⟨hmem, hne⟩ := List.mem_filter.mp he
      exact (hcover e hmem).imp_right (List.mem_erase_of_ne (by simpa using hne)).mpr

/-- A must line for which no spare is left rules every repair out. -/
theorem Block.Sound.spareFor_of_repairable {g : Geometry} {b : Block} (hs : b.Sound g) {ln : Line}
    (hm : b.must g ln = true) (hr : b.repairable g b.fails) : b.spareFor g ln = true := by
  obtain ⟨rows, cols, hrows, hcols, hcover⟩ := hr
  have hin := hs.mem_cover hm hrows hcols hcover
  rw [Block.spareFor_iff]
  cases ln with
  | row r => exact (List.length_pos_of_mem hin).trans_le hrows
  | col c => exact (List.length_pos_of_mem hin).trans_le hcols

/-! ### The processing of an item (R127 to R130) -/

/-- What the processing of an appended item keeps: sound lists, committed lines that stay, and a repair as long as there
is one, so that the block is not rejected. -/
structure Processing.Good (g : Geometry) (b : Block) (p : Processing) : Prop where
  sound : p.block.Sound g
  size : p.block.fails.length ≤ b.fails.length
  rows : b.rows <+: p.block.rows
  cols : b.cols <+: p.block.cols
  state : p.block.state = .unrepairable ∨ p.block.state = .collecting
  repair : b.repairable g b.fails → p.block.state ≠ .unrepairable ∧ p.block.repairable g p.block.fails

theorem Processing.rejected_iff (p : Processing) : p.rejected = true ↔ p.block.state = .unrepairable := by
  simp [Processing.rejected]

/-- A test leaves the block, commits the line, or makes the block UNREPAIRABLE (R126). -/
theorem Processing.test_cases (g : Geometry) (p : Processing) (ln : Line) :
    (p.block.must g ln = false ∧ p.test g ln = p)
      ∨ (p.block.must g ln = true ∧ p.block.spareFor g ln = true
        ∧ p.test g ln = ⟨p.block.commit ln, p.committed ++ [ln]⟩)
      ∨ (p.block.must g ln = true ∧ p.block.spareFor g ln = false ∧ p.test g ln = ⟨p.block.reject, p.committed⟩) := by
  unfold Processing.test Block.testLine
  cases hm : p.block.must g ln with
  | false => exact .inl ⟨rfl, by simp⟩
  | true =>
    cases hs : p.block.spareFor g ln with
    | false => exact .inr (.inr ⟨rfl, rfl, by simp⟩)
    | true => exact .inr (.inl ⟨rfl, rfl, by simp⟩)

theorem Block.Sound.reject {g : Geometry} {b : Block} (hs : b.Sound g) : b.reject.Sound g :=
  ⟨hs.1, hs.2, hs.3, hs.4, hs.5, hs.6⟩

theorem Block.length_commit_le (b : Block) (ln : Line) : (b.commit ln).fails.length ≤ b.fails.length := by
  cases ln <;> exact List.length_filter_le _ _

theorem Processing.Good.test {g : Geometry} {b : Block} {p : Processing} (h : p.Good g b) (ln : Line) :
    (p.test g ln).Good g b := by
  rcases p.test_cases g ln with ⟨-, he⟩ | ⟨hm, hspare, he⟩ | ⟨hm, hspare, he⟩
  · rwa [he]
  · rw [he]
    refine ⟨h.sound.commit hm hspare, (p.block.length_commit_le ln).trans h.size, ?_, ?_, ?_, fun hr => ?_⟩
    · cases ln with
      | row r => exact h.rows.trans (List.prefix_append _ _)
      | col c => exact h.rows
    · cases ln with
      | row r => exact h.cols
      | col c => exact h.cols.trans (List.prefix_append _ _)
    · cases ln <;> exact h.state
    · obtain ⟨hstate, hrep⟩ := h.repair hr
      refine ⟨?_, h.sound.repairable_commit hm hrep⟩
      cases ln <;> exact hstate
  · rw [he]
    refine ⟨h.sound.reject, h.size, h.rows, h.cols, .inl rfl, fun hr => ?_⟩
    rw [h.sound.spareFor_of_repairable hm (h.repair hr).2] at hspare
    cases hspare

theorem Processing.Good.ownLines {g : Geometry} {b : Block} {p : Processing} (h : p.Good g b) (row col : Nat) :
    (p.ownLines g row col).Good g b := by
  unfold Processing.ownLines
  dsimp only
  split_ifs
  · exact h.test _
  · exact (h.test _).test _

theorem Processing.Good.cascade {g : Geometry} {b : Block} (n : Nat) {p : Processing} (h : p.Good g b) :
    (Processing.cascade g n p).Good g b := by
  induction n generalizing p with
  | zero => exact h
  | succ n ih =>
    unfold Processing.cascade
    split
    · exact h
    · dsimp only
      split_ifs
      · exact h.test _
      · exact ih (h.test _)

/-! ### The end of the analysis -/

theorem Block.firstMust_some {g : Geometry} {b : Block} {l : List FailListEntry} {ln : Line}
    (h : b.firstMust g l = some ln) : b.must g ln = true := by
  induction l with
  | nil => cases h
  | cons e l ih =>
    unfold Block.firstMust at h
    split_ifs at h with h1 h2
    · cases h; exact h1
    · cases h; exact h2
    · exact ih h

theorem Block.firstMust_none {g : Geometry} {b : Block} {l : List FailListEntry} (h : b.firstMust g l = none) :
    ∀ e ∈ l, b.must g (.row e.row) = false ∧ b.must g (.col e.col) = false := by
  induction l with
  | nil => simp
  | cons e l ih =>
    unfold Block.firstMust at h
    split_ifs at h with h1 h2
    intro x hx
    rcases List.mem_cons.mp hx with rfl | hx
    · exact ⟨Bool.eq_false_of_not_eq_true h1, Bool.eq_false_of_not_eq_true h2⟩
    · exact ih h x hx

/-- A rescan that finds no must line leaves none: a line without fails is none. -/
theorem Block.NoMust.of_firstMust {g : Geometry} {b : Block} (h : b.firstMust g b.fails = none) : b.NoMust g := by
  constructor
  · intro r
    by_contra hlt
    obtain ⟨e, he, rfl⟩ := (b.rowCount_pos_iff r).mp (Nat.zero_lt_of_lt (Nat.not_le.mp hlt))
    have hm := (Block.firstMust_none h e he).1
    rw [(b.must_row_iff g e.row).mpr (Nat.not_le.mp hlt)] at hm
    cases hm
  · intro c
    by_contra hlt
    obtain ⟨e, he, rfl⟩ := (b.colCount_pos_iff c).mp (Nat.zero_lt_of_lt (Nat.not_le.mp hlt))
    have hm := (Block.firstMust_none h e he).2
    rw [(b.must_col_iff g e.col).mpr (Nat.not_le.mp hlt)] at hm
    cases hm

/-- A commitment uses a spare. -/
theorem Block.sparesLeft_commit {g : Geometry} {b : Block} {ln : Line} (hspare : b.spareFor g ln = true) :
    (b.commit ln).rowsLeft g + (b.commit ln).colsLeft g + 1 = b.rowsLeft g + b.colsLeft g := by
  rw [Block.spareFor_iff] at hspare
  cases ln <;> simp only [Block.rowsLeft, Block.colsLeft, Block.commit, List.length_append, List.length_singleton]
    at hspare ⊢ <;> omega

/-- The cascade ends with the block UNREPAIRABLE or without a must line, since each of its commitments uses a spare
(R128). -/
theorem Processing.cascade_end (g : Geometry) (n : Nat) (p : Processing)
    (hn : p.block.rowsLeft g + p.block.colsLeft g < n) :
    (Processing.cascade g n p).rejected = true ∨ (Processing.cascade g n p).block.NoMust g := by
  induction n generalizing p with
  | zero => exact absurd hn (Nat.not_lt_zero _)
  | succ n ih =>
    unfold Processing.cascade
    split
    · rename_i hnone
      exact .inr (.of_firstMust hnone)
    · rename_i ln hsome
      have hmust := Block.firstMust_some hsome
      dsimp only
      split_ifs with hrej
      · exact .inl hrej
      · rcases p.test_cases g ln with ⟨hm, -⟩ | ⟨-, hspare, he⟩ | ⟨-, -, he⟩
        · rw [hmust] at hm
          cases hm
        · refine ih _ ?_
          have hleft := Block.sparesLeft_commit hspare
          rw [he]
          show (p.block.commit ln).rowsLeft g + (p.block.commit ln).colsLeft g < n
          omega
        · rw [he] at hrej
          exact absurd rfl hrej

/-- Own lines that commit nothing and do not reject are no must lines, and leave the block as it was (R127). -/
theorem Processing.ownLines_of_not_committed {g : Geometry} {b : Block} {row col : Nat}
    (hrej : (Processing.ownLines g ⟨b, []⟩ row col).rejected = false)
    (hnone : (Processing.ownLines g ⟨b, []⟩ row col).committed = []) :
    (Processing.ownLines g ⟨b, []⟩ row col).block = b ∧ b.must g (.row row) = false ∧ b.must g (.col col) = false := by
  have htest (p : Processing) (ln : Line) (hr : (p.test g ln).rejected = false) (hc : (p.test g ln).committed = []) :
      p.test g ln = p ∧ p.block.must g ln = false := by
    rcases p.test_cases g ln with ⟨hm, he⟩ | ⟨-, -, he⟩ | ⟨-, -, he⟩
    · exact ⟨he, hm⟩
    · rw [he] at hc
      simp at hc
    · rw [he] at hr
      simp [Processing.rejected, Block.reject] at hr
  unfold Processing.ownLines at hrej hnone ⊢
  dsimp only at hrej hnone ⊢
  split_ifs at hrej hnone ⊢ with hfirst
  · rw [hfirst] at hrej
    cases hrej
  · obtain ⟨he, hcol⟩ := htest _ _ hrej hnone
    rw [he] at hnone ⊢
    obtain ⟨he', hrow⟩ := htest _ _ (Bool.eq_false_of_not_eq_true hfirst) hnone
    rw [he'] at hcol ⊢
    exact ⟨rfl, hrow, hcol⟩

theorem Block.rowCount_append (b : Block) (row col : Nat) (v : BitVec 32) (r : Nat) (hr : r ≠ row) :
    (b.append row col v).rowCount r = b.rowCount r := by
  simp [Block.append, Block.rowCount, Ne.symm hr]

theorem Block.colCount_append (b : Block) (row col : Nat) (v : BitVec 32) (c : Nat) (hc : c ≠ col) :
    (b.append row col v).colCount c = b.colCount c := by
  simp [Block.append, Block.colCount, Ne.symm hc]

/-- An item whose own lines are no must lines adds a must line to no block without one. -/
theorem Block.NoMust.append {g : Geometry} {b : Block} (h : b.NoMust g) {row col : Nat} {v : BitVec 32}
    (hrow : (b.append row col v).must g (.row row) = false) (hcol : (b.append row col v).must g (.col col) = false) :
    (b.append row col v).NoMust g := by
  constructor
  · intro r
    by_cases hr : r = row
    · subst hr
      by_contra hlt
      rw [(Block.must_row_iff g _ r).mpr (Nat.not_le.mp hlt)] at hrow
      cases hrow
    · rw [b.rowCount_append row col v r hr]
      exact h.rows r
  · intro c
    by_cases hc : c = col
    · subst hc
      by_contra hlt
      rw [(Block.must_col_iff g _ c).mpr (Nat.not_le.mp hlt)] at hcol
      cases hcol
    · rw [b.colCount_append row col v c hc]
      exact h.cols c

/-- The end of the analysis: the block is UNREPAIRABLE, or in COLLECTING at rest, and rejected only without a repair
(R127 to R129). -/
theorem Processing.settle_good {g : Geometry} {b : Block} {row col : Nat} {v : BitVec 32} (hn : b.NoMust g)
    (hg : Processing.Good g (b.append row col v) ⟨b.append row col v, []⟩) :
    (Processing.settle g ⟨b.append row col v, []⟩ row col).Good g (b.append row col v)
      ∧ ((Processing.settle g ⟨b.append row col v, []⟩ row col).block.state = .unrepairable
        ∨ (Processing.settle g ⟨b.append row col v, []⟩ row col).block.AtRest g) := by
  unfold Processing.settle
  dsimp only
  generalize hp4 : Processing.ownLines g ⟨b.append row col v, []⟩ row col = p4
  have hgood4 : p4.Good g (b.append row col v) := hp4 ▸ hg.ownLines row col
  generalize hp5 : (if !p4.rejected && !p4.committed.isEmpty then p4.cascade g (g.sr + g.sc + 1) else p4) = p5
  have hgood5 : p5.Good g (b.append row col v) := by
    rw [← hp5]
    split_ifs
    · exact hgood4.cascade _
    · exact hgood4
  have hend5 : p5.rejected = true ∨ p5.block.NoMust g := by
    rw [← hp5]
    split_ifs with hc
    · refine Processing.cascade_end g _ p4 ?_
      have h1 := Nat.sub_le g.sr p4.block.rows.length
      have h2 := Nat.sub_le g.sc p4.block.cols.length
      unfold Block.rowsLeft Block.colsLeft
      omega
    · cases hrej : p4.rejected with
      | true => exact .inl rfl
      | false =>
        have hnone : p4.committed = [] := by simpa [hrej] using hc
        subst hp4
        obtain ⟨hblock, hrow, hcol⟩ := Processing.ownLines_of_not_committed hrej hnone
        rw [hblock]
        exact .inr (hn.append hrow hcol)
  split_ifs with hrej
  · exact ⟨hgood5, .inl ((p5.rejected_iff).mp hrej)⟩
  · have hno := hend5.resolve_left hrej
    unfold Processing.bound
    split_ifs with hbound
    · refine ⟨⟨hgood5.sound.reject, hgood5.size, hgood5.rows, hgood5.cols, .inl rfl, fun hr => ?_⟩, .inl rfl⟩
      exact absurd (hno.length_le (hgood5.repair hr).2) (Nat.not_le.mpr hbound)
    · exact ⟨hgood5, .inr ⟨hgood5.sound, hno.rows, hno.cols, Nat.not_lt.mp hbound⟩⟩

/-! ### Every item (R123 to R125) -/

theorem Block.Sound.append {g : Geometry} {b : Block} (hs : b.Sound g) {row col : Nat} (v : BitVec 32)
    (hc : b.covers row col = false) (hl : b.lists row col = false) : (b.append row col v).Sound g := by
  obtain ⟨h1, h2, h3, h4, h5, h6⟩ := hs
  simp only [Block.covers, Bool.or_eq_false_iff, List.contains_eq_mem, decide_eq_false_iff_not] at hc
  refine ⟨h1, h2, h3, h4, ?_, fun e he => ?_⟩
  · simp only [Block.append, List.map_append, List.map_cons, List.map_nil]
    refine List.Nodup.append h5 (List.nodup_singleton _) ?_
    rw [List.disjoint_singleton]
    intro hmem
    obtain ⟨e, he, heq⟩ := List.mem_map.mp hmem
    obtain ⟨hrow, hcol⟩ := Prod.mk.inj heq
    have hlists : b.lists row col = true := List.any_eq_true.mpr ⟨e, he, by simp [hrow, hcol]⟩
    rw [hl] at hlists
    cases hlists
  · rcases List.mem_append.mp he with he | he
    · exact h6 e he
    · rw [List.mem_singleton.mp he]
      exact hc

theorem Block.length_fails_append (b : Block) (row col : Nat) (v : BitVec 32) :
    (b.append row col v).fails.length = b.fails.length + 1 := by simp [Block.append]

theorem Block.sameCells_hitListed (b : Block) (row col : Nat) : b.SameCells (b.hitListed row col) where
  cells := by
    simp only [Block.hitListed, List.map_map]
    refine List.map_congr_left fun e _ => ?_
    simp only [Function.comp]
    split_ifs <;> rfl

/-- The three ways of an item (R123 to R125): covered, a duplicate, or appended and analysed. -/
theorem processItem_cases (g : Geometry) (b : Block) (it : FailItem) :
    (b.SameCells (processItem g b it).1 ∧ (processItem g b it).1.state = b.state)
      ∨ (b.covers it.row it.col = false ∧ b.lists it.row it.col = false ∧ (processItem g b it).1
        = (Processing.settle g ⟨b.append it.row it.col it.vectorIndex, []⟩ it.row it.col).block) := by
  unfold processItem
  split_ifs with hc hl
  · exact .inl ⟨{}, rfl⟩
  · exact .inl ⟨b.sameCells_hitListed _ _, rfl⟩
  · exact .inr ⟨Bool.eq_false_of_not_eq_true hc, Bool.eq_false_of_not_eq_true hl, rfl⟩

/-- The analysis of an appended item begins with all that it keeps. -/
theorem Processing.Good.start {g : Geometry} {b : Block} {it : FailItem} (hs : b.Sound g)
    (hstate : b.state = .collecting) (hc : b.covers it.row it.col = false) (hl : b.lists it.row it.col = false) :
    Processing.Good g (b.append it.row it.col it.vectorIndex) ⟨b.append it.row it.col it.vectorIndex, []⟩ :=
  ⟨hs.append _ hc hl, Nat.le_refl _, List.prefix_rfl, List.prefix_rfl, .inr hstate,
    fun hr => ⟨by simp [Block.append, hstate], hr⟩⟩

/-- The must-repair analysis on a block at rest. -/
theorem processItem_atRest {g : Geometry} {b : Block} (it : FailItem) (hsr : g.sr ≤ 4) (hsc : g.sc ≤ 4)
    (hstate : b.state = .collecting) (hrest : b.AtRest g) :
    (processItem g b it).1.Sound g ∧ (processItem g b it).1.fails.length ≤ 33 ∧ b.rows <+: (processItem g b it).1.rows
      ∧ b.cols <+: (processItem g b it).1.cols
      ∧ ((processItem g b it).1.state = .unrepairable
        ∨ ((processItem g b it).1.state = .collecting ∧ (processItem g b it).1.AtRest g)) := by
  have hbound : b.fails.length ≤ 32 := by
    refine hrest.bound.trans ?_
    have h1 : b.rowsLeft g ≤ 4 := (Nat.sub_le _ _).trans hsr
    have h2 : b.colsLeft g ≤ 4 := (Nat.sub_le _ _).trans hsc
    exact Nat.mul_le_mul (Nat.mul_le_mul_left 2 h1) h2
  rcases processItem_cases g b it with ⟨hsame, hst⟩ | ⟨hc, hl, he⟩
  · refine ⟨hsame.sound hrest.sound, ?_, ?_, ?_, .inr ⟨hst.trans hstate, hsame.atRest hrest⟩⟩
    · rw [hsame.length]
      omega
    · rw [hsame.rows]
    · rw [hsame.cols]
  · obtain ⟨hgood, hend⟩ := Processing.settle_good hrest.noMust (Processing.Good.start hrest.sound hstate hc hl)
    have hsize := hgood.size.trans_eq (b.length_fails_append _ _ _)
    rw [he]
    refine ⟨hgood.sound, by omega, hgood.rows, hgood.cols, ?_⟩
    rcases hend with hrej | hat
    · exact .inl hrej
    · exact hgood.state.imp_right fun hs => ⟨hs, hat⟩

/-- Settles O48, by the invariant of the analysis: a must line is in every repair, so that a repair of the list is left
one of the rest by each commitment, and none is left where a spare or the bound is missing. -/
theorem rejectedBlocksHaveNoRepair : Obligations.RejectedBlocksHaveNoRepair := by
  intro g b it hstate hrest hrej hrep
  rcases processItem_cases g b it with ⟨-, hst⟩ | ⟨hc, hl, he⟩
  · rw [hst, hstate] at hrej
    cases hrej
  · have hgood := (Processing.settle_good hrest.noMust (Processing.Good.start hrest.sound hstate hc hl)).1
    rw [he] at hrej
    exact (hgood.repair hrep).1 hrej

end Sys2Proof.Machine
end

section
/-! The solve search (8.2): it finds a repair exactly when one exists, with the fewest rows and of those the first. -/

namespace Sys2Proof.Machine

/-! ### The distinct members of a list, in the order of their first places -/

theorem firsts_concat (l : List Nat) (x : Nat) :
    firsts (l ++ [x]) = if (firsts l).contains x then firsts l else firsts l ++ [x] := by
  simp [firsts, List.foldl_append]

theorem mem_firsts {l : List Nat} {x : Nat} : x ∈ firsts l ↔ x ∈ l := by
  induction l using List.reverseRecOn generalizing x with
  | nil => simp [firsts]
  | append_singleton l y ih =>
    rw [firsts_concat]
    split_ifs with hc
    · have hy : y ∈ l := ih.mp (List.contains_iff_mem.mp hc)
      rw [ih, List.mem_append, List.mem_singleton]
      exact ⟨.inl, fun h => h.elim id fun h => h ▸ hy⟩
    · rw [List.mem_append, List.mem_append, ih]

/-- The members stand in the order of their first places in the list. -/
theorem firsts_pairwise (l : List Nat) : (firsts l).Pairwise (fun x y => l.idxOf x < l.idxOf y) := by
  induction l using List.reverseRecOn with
  | nil => simp [firsts]
  | append_singleton l z ih =>
    have hold : (firsts l).Pairwise (fun x y => (l ++ [z]).idxOf x < (l ++ [z]).idxOf y) := by
      refine ih.imp_of_mem fun {x y} hx hy h => ?_
      rwa [List.idxOf_append_of_mem (mem_firsts.mp hx), List.idxOf_append_of_mem (mem_firsts.mp hy)]
    rw [firsts_concat]
    split_ifs with hc
    · exact hold
    · have hz : z ∉ l := fun h => hc (List.contains_iff_mem.mpr (mem_firsts.mpr h))
      refine List.pairwise_append.mpr ⟨hold, List.pairwise_singleton _ _, fun x hx y hy => ?_⟩
      rw [List.mem_singleton.mp hy, List.idxOf_append_of_mem (mem_firsts.mp hx), List.idxOf_append_of_notMem hz]
      exact (List.idxOf_lt_length_of_mem (mem_firsts.mp hx)).trans_le (Nat.le_add_right _ _)

theorem firsts_nodup (l : List Nat) : (firsts l).Nodup :=
  (firsts_pairwise l).imp fun h heq => by rw [heq] at h; exact Nat.lt_irrefl _ h

/-! ### The choices of a size -/

theorem mem_subsetsOf {α : Type} {n : Nat} {l xs : List α} : xs ∈ subsetsOf n l ↔ xs.Sublist l ∧ xs.length = n := by
  induction l generalizing n xs with
  | nil =>
    cases n with
    | zero => simp [subsetsOf]
    | succ n =>
      simp only [subsetsOf, List.not_mem_nil, false_iff, not_and]
      intro h
      simp [List.sublist_nil.mp h]
  | cons x l ih =>
    cases n with
    | zero =>
      simp only [subsetsOf, List.mem_singleton, List.length_eq_zero_iff]
      exact ⟨fun h => ⟨h ▸ List.nil_sublist _, h⟩, fun h => h.2⟩
    | succ n =>
      rw [subsetsOf, List.mem_append, List.mem_map, ih, List.sublist_cons_iff]
      constructor
      · rintro (⟨ys, hys, rfl⟩ | ⟨hsub, hlen⟩)
        · obtain ⟨hsub, hlen⟩ := ih.mp hys
          exact ⟨.inr ⟨ys, rfl, hsub⟩, by simp [hlen]⟩
        · exact ⟨.inl hsub, hlen⟩
      · rintro ⟨hsub | ⟨ys, rfl, hsub⟩, hlen⟩
        · exact .inr ⟨hsub, hlen⟩
        · exact .inl ⟨ys, ih.mpr ⟨hsub, by simpa using hlen⟩, rfl⟩

/-- The choices of one size stand in the lexicographic order of their places. -/
theorem subsetsOf_pairwise {l : List Nat} {place : Nat → Nat} (hl : l.Pairwise (fun x y => place x < place y)) (n : Nat) :
    (subsetsOf n l).Pairwise (fun xs ys => List.Lex (· < ·) (xs.map place) (ys.map place)) := by
  induction l generalizing n with
  | nil => cases n <;> simp [subsetsOf]
  | cons x l ih =>
    cases n with
    | zero => simp [subsetsOf]
    | succ n =>
      obtain ⟨hx, hrest⟩ := List.pairwise_cons.mp hl
      rw [subsetsOf]
      refine List.pairwise_append.mpr ⟨?_, ih hrest (n + 1), fun xs hxs ys hys => ?_⟩
      · exact List.pairwise_map.mpr ((ih hrest n).imp fun h => List.Lex.cons h)
      · obtain ⟨xs', -, rfl⟩ := List.mem_map.mp hxs
        obtain ⟨hsub, hlen⟩ := mem_subsetsOf.mp hys
        obtain ⟨y, ys', rfl⟩ := List.exists_cons_of_length_eq_add_one hlen
        exact List.Lex.rel (hx y (hsub.subset List.mem_cons_self))

/-! ### Rows and columns of a choice -/

theorem mem_failRows {b : Block} {r : Nat} : r ∈ failRows b ↔ ∃ e ∈ b.fails, e.row = r := by
  rw [failRows, mem_firsts, List.mem_map]

theorem mem_leftColumns {b : Block} {chosen : List Nat} {c : Nat} :
    c ∈ leftColumns b chosen ↔ ∃ e ∈ b.fails, e.col = c ∧ e.row ∉ chosen := by
  simp only [leftColumns, mem_firsts, List.mem_map, List.mem_filter, Bool.not_eq_true', List.contains_eq_mem,
    decide_eq_false_iff_not]
  exact ⟨fun ⟨e, ⟨he, hr⟩, hc⟩ => ⟨e, he, hc, hr⟩, fun ⟨e, he, hc, hr⟩ => ⟨e, ⟨he, hr⟩, hc⟩⟩

/-- A choice and the column lines that it leaves cover the whole fail list. -/
theorem coversAll_leftColumns (b : Block) (chosen : List Nat) : coversAll chosen (leftColumns b chosen) b.fails := by
  intro e he
  by_cases hr : e.row ∈ chosen
  · exact .inl hr
  · exact .inr (mem_leftColumns.mpr ⟨e, he, rfl, hr⟩)

/-- The columns of any cover with the same fail rows are at least those that the choice leaves. -/
theorem length_leftColumns_le {b : Block} {rows cols chosen : List Nat} (hcover : coversAll rows cols b.fails)
    (hrows : ∀ e ∈ b.fails, e.row ∈ rows → e.row ∈ chosen) : (leftColumns b chosen).length ≤ cols.length := by
  refine (List.subperm_of_subset (firsts_nodup _) fun c hc => ?_).length_le
  obtain ⟨e, he, rfl, hr⟩ := mem_leftColumns.mp hc
  exact (hcover e he).resolve_left fun h => hr (hrows e he h)

/-- The choice of a cover's rows that hold fails: no greater, and it leaves no more column lines than the cover has. -/
theorem exists_choice_of_cover {b : Block} {rows cols : List Nat} (hcover : coversAll rows cols b.fails) :
    ∃ n ≤ rows.length, n ≤ (failRows b).length ∧ ∃ chosen ∈ subsetsOf n (failRows b),
      (leftColumns b chosen).length ≤ cols.length := by
  refine ⟨((failRows b).filter (fun r => rows.contains r)).length, ?_, List.length_filter_le _ _, _,
    mem_subsetsOf.mpr ⟨List.filter_sublist, rfl⟩, length_leftColumns_le hcover fun e he hr => ?_⟩
  · refine (List.subperm_of_subset ((firsts_nodup _).filter _) fun r hr => ?_).length_le
    simpa using (List.mem_filter.mp hr).2
  · exact List.mem_filter.mpr ⟨mem_failRows.mpr ⟨e, he, rfl⟩, by simpa using hr⟩

/-! ### The search (R137) -/

/-- The choice leaves no more column lines than there are spare columns left (R137). -/
def Block.leaves (g : Geometry) (b : Block) (rows : List Nat) : Bool := (leftColumns b rows).length ≤ b.colsLeft g

/-- The search on an empty list is no case of its own: the choice of no row leaves no column line. -/
theorem solve_eq (g : Geometry) (b : Block) :
    solve g b = ((trials g b).find? (b.leaves g)).map (fun rows => ⟨rows, leftColumns b rows⟩) := by
  unfold solve
  split_ifs with hf
  · have hnil : b.fails = [] := List.isEmpty_iff.mp hf
    have hleft (rows : List Nat) : leftColumns b rows = [] := by simp [leftColumns, hnil, firsts]
    have htrials : trials g b = [[]] := by simp [trials, failRows, hnil, firsts, subsetsOf]
    simp [htrials, Block.leaves, hleft]
  · rfl

theorem mem_trials {g : Geometry} {b : Block} {rows : List Nat} :
    rows ∈ trials g b ↔ rows.Sublist (failRows b) ∧ rows.length ≤ b.rowsLeft g := by
  simp only [trials, List.mem_flatMap, List.mem_range, mem_subsetsOf]
  constructor
  · rintro ⟨n, hn, hsub, rfl⟩
    exact ⟨hsub, by omega⟩
  · rintro ⟨hsub, hle⟩
    have hlen := hsub.length_le
    exact ⟨rows.length, by omega, hsub, rfl⟩

/-- The place of a row: where it first appears in the fail list. -/
def Block.place (b : Block) (r : Nat) : Nat := (b.fails.map (fun e => e.row)).idxOf r

/-- A choice of rows is tried before another: it is smaller, or of the same size and first by its places (R137). -/
def Block.before (b : Block) (rows rows' : List Nat) : Prop :=
  rows.length < rows'.length ∨ (rows.length = rows'.length ∧ List.Lex (· < ·) (rows.map b.place) (rows'.map b.place))

theorem trials_pairwise (g : Geometry) (b : Block) : (trials g b).Pairwise b.before := by
  refine List.pairwise_flatMap.mpr ⟨fun n _ => ?_, List.pairwise_lt_range.imp fun {m n} hlt rows hr rows' hr' => ?_⟩
  · refine (subsetsOf_pairwise (firsts_pairwise _) n).imp_of_mem fun {rows rows'} hr hr' hlex => .inr ⟨?_, hlex⟩
    rw [(mem_subsetsOf.mp hr).2, (mem_subsetsOf.mp hr').2]
  · refine .inl ?_
    rw [(mem_subsetsOf.mp hr).2, (mem_subsetsOf.mp hr').2]
    exact hlt

/-- What `find?` finds in an ordered list comes before all else that would do. -/
theorem before_of_find? {α : Type} {r : α → α → Prop} {l : List α} {p : α → Bool} {x : α} (hl : l.Pairwise r)
    (hx : l.find? p = some x) {y : α} (hy : y ∈ l) (hp : p y = true) : y = x ∨ r x y := by
  obtain ⟨-, before, after, rfl, hno⟩ := List.find?_eq_some_iff_append.mp hx
  rcases List.mem_append.mp hy with hy | hy
  · have hn := hno y hy
    rw [hp] at hn
    cases hn
  · rcases List.mem_cons.mp hy with rfl | hy
    · exact .inl rfl
    · exact .inr ((List.pairwise_cons.mp (List.pairwise_append.mp hl).2.1).1 y hy)

/-- What a solution is: the first choice tried that leaves few enough column lines, with those (R137, R138). -/
theorem solve_some {g : Geometry} {b : Block} {x : Solution} (hx : solve g b = some x) :
    x.cols = leftColumns b x.rows ∧ x.rows.Sublist (failRows b) ∧ x.rows.length ≤ b.rowsLeft g
      ∧ x.cols.length ≤ b.colsLeft g
      ∧ ∀ rows ∈ trials g b, (leftColumns b rows).length ≤ b.colsLeft g → rows = x.rows ∨ b.before x.rows rows := by
  rw [solve_eq, Option.map_eq_some_iff] at hx
  obtain ⟨rows, hfind, rfl⟩ := hx
  obtain ⟨hsub, hle⟩ := mem_trials.mp (List.mem_of_find?_eq_some hfind)
  have hleaves := List.find?_some hfind
  exact ⟨rfl, hsub, hle, by simpa [Block.leaves] using hleaves,
    fun rows' hr hl => before_of_find? (trials_pairwise g b) hfind hr (by simpa [Block.leaves] using hl)⟩

/-- A choice of distinct fail rows in the order of their places is one of those that the search tries. -/
theorem sublist_failRows {b : Block} {rows : List Nat} (hmem : ∀ r ∈ rows, ∃ e ∈ b.fails, e.row = r)
    (hplaces : rows.Pairwise (fun r r' => b.place r < b.place r')) : rows.Sublist (failRows b) := by
  have hirr : ∀ {l : List Nat}, l.Pairwise (fun r r' => b.place r < b.place r') → l.Nodup := fun h =>
    h.imp fun hlt heq => by rw [heq] at hlt; exact Nat.lt_irrefl _ hlt
  have hsorted : (failRows b).Pairwise (fun r r' => b.place r < b.place r') := firsts_pairwise _
  have hfilter := hsorted.filter (fun r => rows.contains r)
  have hperm : rows.Perm ((failRows b).filter (fun r => rows.contains r)) := by
    rw [List.perm_ext_iff_of_nodup (hirr hplaces) (hirr hfilter)]
    intro r
    rw [List.mem_filter, mem_failRows, List.contains_iff_mem]
    exact ⟨fun h => ⟨hmem r h, h⟩, fun h => h.2⟩
  have heq := hperm.eq_of_pairwise (fun r r' _ _ h h' => absurd h (Nat.lt_asymm h')) hplaces hfilter
  rw [heq]
  exact List.filter_sublist

theorem solve_isSome_iff {g : Geometry} {b : Block} : (solve g b).isSome = true ↔ b.repairable g b.fails := by
  constructor
  · intro h
    obtain ⟨x, hx⟩ := Option.isSome_iff_exists.mp h
    obtain ⟨hcols, -, hrows, hle, -⟩ := solve_some hx
    exact ⟨x.rows, x.cols, hrows, hle, hcols ▸ coversAll_leftColumns b x.rows⟩
  · rintro ⟨rows, cols, hrows, hcols, hcover⟩
    obtain ⟨n, hn, hlen, chosen, hchosen, hleft⟩ := exists_choice_of_cover hcover
    obtain ⟨hsub, hl⟩ := mem_subsetsOf.mp hchosen
    rw [solve_eq, Option.isSome_map, List.find?_isSome]
    exact ⟨chosen, mem_trials.mpr ⟨hsub, hl ▸ hn.trans hrows⟩, by simpa [Block.leaves] using hleft.trans hcols⟩

/-- The lines of a solution are distinct, and none is committed (R120, R138). -/
theorem Block.Sound.solution_distinct {g : Geometry} {b : Block} (hs : b.Sound g) {x : Solution}
    (hx : solve g b = some x) :
    (b.rows ++ x.rows).length ≤ g.sr ∧ (b.cols ++ x.cols).length ≤ g.sc ∧ (b.rows ++ x.rows).Nodup
      ∧ (b.cols ++ x.cols).Nodup := by
  obtain ⟨hcols, hsub, hrows, hle, -⟩ := solve_some hx
  have h1 := hs.rows
  have h2 := hs.cols
  unfold Block.rowsLeft at hrows
  unfold Block.colsLeft at hle
  refine ⟨by rw [List.length_append]; omega, by rw [List.length_append]; omega, ?_, ?_⟩
  · refine hs.rowsDistinct.append ((firsts_nodup _).sublist hsub) fun r hr hr' => ?_
    obtain ⟨e, he, rfl⟩ := mem_failRows.mp (hsub.subset hr')
    exact (hs.uncovered e he).1 hr
  · rw [hcols]
    refine hs.colsDistinct.append (firsts_nodup _) fun c hc hc' => ?_
    obtain ⟨e, he, rfl, -⟩ := mem_leftColumns.mp hc'
    exact (hs.uncovered e he).2 hc

/-- Settles O49, by the order of the trials: any repair gives a choice that the search tries, with no more rows, and
what it finds comes before every other that would do. -/
theorem solveFindsARepairExactlyWhenOneExists : Obligations.SolveFindsARepairExactlyWhenOneExists := by
  intro g b hs
  refine ⟨solve_isSome_iff, fun x hx => ?_⟩
  obtain ⟨hcols, hsub, hrows, hle, hfirst⟩ := solve_some hx
  obtain ⟨hsr, hsc, hnr, hnc⟩ := hs.solution_distinct hx
  refine ⟨hcols ▸ coversAll_leftColumns b x.rows, hsr, hsc, hnr, hnc, fun c hc => mem_leftColumns.mp (hcols ▸ hc),
    fun rows cols hlt hc hcover => ?_, ⟨fun r hr => mem_failRows.mp (hsub.subset hr), (firsts_pairwise _).sublist hsub⟩,
    fun rows cols hchoice hlen hc hcover => ?_, ?_⟩
  · obtain ⟨n, hn, -, chosen, hchosen, hleft⟩ := exists_choice_of_cover hcover
    obtain ⟨hsub', hl⟩ := mem_subsetsOf.mp hchosen
    rcases hfirst chosen (mem_trials.mpr ⟨hsub', by omega⟩) (hleft.trans hc) with heq | hbefore | ⟨heq, -⟩
    · have := congrArg List.length heq
      omega
    · omega
    · omega
  · have hsub' := sublist_failRows hchoice.1 hchoice.2
    have hleft := (length_leftColumns_le hcover fun _ _ h => h).trans hc
    rcases hfirst rows (mem_trials.mpr ⟨hsub', by omega⟩) hleft with heq | hbefore | ⟨-, hlex⟩
    · exact .inl heq
    · omega
    · exact .inr hlex
  · rw [hcols]
    exact firsts_pairwise _

end Sys2Proof.Machine
end

section
/-! What every step keeps of the Block Records (7.2 to 7.4, 8.2). -/

namespace Sys2Proof.Machine

/-! ### One block -/

/-- What every Block Record keeps: sound lists of at most 33 entries, and rest while it is COLLECTING. -/
structure Block.Kept (g : Geometry) (b : Block) : Prop where
  sound : b.Sound g
  size : b.fails.length ≤ 33
  atRest : b.state = .collecting → b.AtRest g

theorem Block.Sound.of_empty {g : Geometry} {b : Block} (hr : b.rows = []) (hc : b.cols = []) (hf : b.fails = []) :
    b.Sound g := by
  refine ⟨?_, ?_, ?_, ?_, ?_, ?_⟩ <;> simp [hr, hc, hf]

theorem Block.Kept.of_empty {g : Geometry} {b : Block} (hr : b.rows = []) (hc : b.cols = []) (hf : b.fails = []) :
    b.Kept g := by
  refine ⟨.of_empty hr hc hf, by simp [hf], fun _ => ⟨.of_empty hr hc hf, fun r => ?_, fun c => ?_, ?_⟩⟩
  · simp [Block.rowCount, hf]
  · simp [Block.colCount, hf]
  · simp [hf]

/-- A block that leaves COLLECTING, its lists as they stand. -/
theorem Block.Kept.set_state {g : Geometry} {b : Block} (h : b.Kept g) {x : BlockState} (hx : x ≠ .collecting) :
    { b with state := x }.Kept g :=
  ⟨⟨h.sound.1, h.sound.2, h.sound.3, h.sound.4, h.sound.5, h.sound.6⟩, h.size, fun hs => absurd hs hx⟩

theorem Block.Kept.stop {g : Geometry} {b : Block} (h : b.Kept g) : b.stop.Kept g := by
  unfold Block.stop
  split_ifs
  · exact h.set_state (by simp)
  · exact h

theorem Block.Kept.close {g : Geometry} {b : Block} (h : b.Kept g) : b.close.Kept g := by
  unfold Block.close
  split_ifs
  · exact h.set_state (by simp)
  · exact h

/-- The end of a job, with what the search finds (R138, R139). -/
theorem Block.Kept.complete {g : Geometry} {b : Block} (h : b.Kept g) {found : Option Solution} (hf : found = solve g b) :
    (b.complete found).Kept g := by
  cases found with
  | none => exact h.set_state (by simp)
  | some x =>
    obtain ⟨hsr, hsc, hnr, hnc⟩ := h.sound.solution_distinct hf.symm
    refine ⟨⟨hsr, hsc, hnr, hnc, List.nodup_nil, fun e he => ?_⟩, Nat.zero_le _, fun hs => ?_⟩
    · cases he
    · cases hs

theorem Block.Kept.process {g : Geometry} {b : Block} (h : b.Kept g) (hspares : g.sr ≤ 4 ∧ g.sc ≤ 4)
    (hstate : b.state = .collecting) (it : FailItem) : (processItem g b it).1.Kept g := by
  obtain ⟨hsound, hsize, -, -, hend⟩ := processItem_atRest it hspares.1 hspares.2 hstate (h.atRest hstate)
  refine ⟨hsound, hsize, fun hs => ?_⟩
  rcases hend with hu | ⟨-, hat⟩
  · rw [hs] at hu; cases hu
  · exact hat

/-! ### One head -/

/-- What a head's Block Records keep for its geometry. -/
structure Head.BlocksInv (hd : Head) : Prop where
  spares : hd.geometry.sr ≤ 4 ∧ hd.geometry.sc ≤ 4
  blocks : ∀ i b, (hd.block i b).Kept hd.geometry

theorem Head.BlocksInv.congr {hd hd' : Head} (h : hd.BlocksInv) (hb : hd'.blocks = hd.blocks := by rfl)
    (hg : hd'.geometry = hd.geometry := by rfl) : hd'.BlocksInv := by
  refine ⟨hg ▸ h.spares, fun i b => ?_⟩
  have hblock : hd'.block i b = hd.block i b := congrArg (fun v : Vector (Vector Block 16) 16 => v[i][b]) hb
  rw [hblock, hg]
  exact h.blocks i b

theorem Head.BlocksInv.of_blocks {hd hd' : Head} (h : hd.BlocksInv) (hg : hd'.geometry = hd.geometry := by rfl)
    (hb : ∀ i b, (hd'.block i b).Kept hd.geometry) : hd'.BlocksInv :=
  ⟨hg ▸ h.spares, fun i b => hg ▸ hb i b⟩

theorem Head.block_of_idle {hd : Head} (hb : hd.blocks = Head.idleBlocks) (i : SiteId) (b : BlockId) :
    hd.block i b = Block.reset := by
  have hblock : hd.block i b = Head.idleBlocks[i][b] := congrArg (fun v : Vector (Vector Block 16) 16 => v[i][b]) hb
  rw [hblock]
  simp [Head.idleBlocks]

theorem Block.kept_reset (g : Geometry) : Block.reset.Kept g := .of_empty rfl rfl rfl

/-- The block of a head when one Block Record has been replaced. -/
theorem Head.block_setBlock (hd : Head) (i j : SiteId) (b c : BlockId) (x : Block) :
    (hd.setBlock i b x).block j c = if j = i ∧ c = b then x else hd.block j c := by
  split_ifs with h
  · obtain ⟨rfl, rfl⟩ := h
    exact hd.block_setBlock_self _ _ x
  · exact hd.block_setBlock_ne x (by tauto)

theorem Head.BlocksInv.setBlock {hd : Head} (h : hd.BlocksInv) (i : SiteId) (b : BlockId) {x : Block}
    (hx : x.Kept hd.geometry) : (hd.setBlock i b x).BlocksInv :=
  h.of_blocks (hb := fun j c => by
    rw [hd.block_setBlock]
    split_ifs
    exacts [hx, h.blocks j c])

theorem Head.block_stopSite (hd : Head) (i : SiteId) (why : StopReason) (j : SiteId) (b : BlockId) :
    (hd.stopSite i why).block j b = if j = i then (hd.block j b).stop else hd.block j b := by
  unfold Head.stopSite
  rw [Head.block_finalise, Head.block_mapBlocks, Head.block_updSite]

theorem Head.block_closeSites (hd : Head) (c : LossCause) (i : SiteId) (b : BlockId) :
    (hd.closeSites c).block i b
      = if (hd.site i).enabled && !(hd.site i).verdict.isFinal then (hd.block i b).close else hd.block i b := by
  unfold Head.closeSites
  dsimp only
  rw [Head.block_finalise, Head.block_lose, Head.block_mapBlocks]

theorem Head.Step.blocksInv {hd hd' : Head} (hm : hd.Step hd') (h : hd.BlocksInv) : hd'.BlocksInv := by
  cases hm with
  | tweak ht => exact h.congr ht.blocks ht.geometry
  | stop i why =>
    refine h.of_blocks (hb := fun j b => ?_)
    rw [Head.block_stopSite]
    split_ifs
    exacts [(h.blocks j b).stop, h.blocks j b]
  | process i b it hb => exact h.setBlock i b ((h.blocks i b).process h.spares hb it)
  | geometry g hsr hsc =>
    refine ⟨⟨hsr, hsc⟩, fun i b => ?_⟩
    rw [Head.block_of_idle rfl]
    exact Block.kept_reset g
  | place => exact h.congr
  | expire => exact h.congr
  | unmatch => exact h.congr
  | goTo => exact h.congr
  | start => exact h.congr
  | enterProfile => exact h.congr
  | failTraining => exact h.congr
  | acceptProfile => exact h.congr
  | supplyFall => exact h.congr
  | supplyRise => exact h.congr
  | signal => exact h.congr

theorem Head.BufferStep.blocks_eq {hd hd' : Head} (hm : hd.BufferStep hd') :
    hd'.blocks = hd.blocks ∧ hd'.geometry = hd.geometry := by
  cases hm with
  | hold => unfold Head.refreshHold; split <;> exact ⟨rfl, rfl⟩
  | _ => exact ⟨rfl, rfl⟩

theorem Head.block_closed (hd : Head) (c : LossCause) (i : SiteId) (b : BlockId) :
    (hd.closed (some c)).block i b = hd.block i b ∨ (hd.closed (some c)).block i b = (hd.block i b).close := by
  have hblock := Head.block_closeSites { { hd with generation := hd.generation + 1 }.clearQueues with slot := none } c i b
  split_ifs at hblock
  · exact .inr hblock
  · exact .inl hblock

theorem Head.block_openSegment (hd : Head) (i : SiteId) (b : BlockId) :
    hd.openSegment.block i b = if (hd.site i).openSegment.enabled ∧ b.val < 2 ^ hd.geometry.bb then Block.opened
      else Block.reset := by
  have hblocks : hd.openSegment.blocks = ((hd.mapSites (fun _ st => st.openSegment)).mapBlocks (fun i b _ =>
      if ((hd.mapSites (fun _ st => st.openSegment)).site i).enabled ∧ b.val < 2 ^ hd.geometry.bb then Block.opened
      else Block.reset)).blocks := rfl
  have hblock := congrArg (fun v : Vector (Vector Block 16) 16 => v[i][b]) hblocks
  refine hblock.trans ((Head.block_mapBlocks _ _ i b).trans ?_)
  rw [Head.site_mapSites]

/-- Of the changes of a head only the end of a job needs more than the head to keep its Block Records. -/
theorem Head.Change.blocksInv {c : Instr} {hd hd' : Head} (hm : hd.Change c hd') (hc : c ≠ .solveJobCompletion)
    (h : hd.BlocksInv) : hd'.BlocksInv := by
  cases hm with
  | step hm => exact hm.blocksInv h
  | buffer _ hm => exact h.congr hm.blocks_eq.1 hm.blocks_eq.2
  | drained =>
    refine h.of_blocks (hb := fun i b => ?_)
    have hblock := hd.block_queueBlocks i b
    show (hd.queueBlocks.block i b).Kept _
    rw [hblock]
    split_ifs
    · exact (h.blocks i b).set_state (by simp)
    · exact h.blocks i b
  | slot => exact h.congr
  | lost k f loss x _ hk hf =>
    have hkept : (k hd).BlocksInv := h.congr hk.blocks hk.geometry
    rw [hf]
    refine hkept.of_blocks (hb := fun i b => ?_)
    show (((k hd).closed (some loss)).block i b).Kept _
    rcases (k hd).block_closed loss i b with he | he
    · rw [he]
      exact hkept.blocks i b
    · rw [he]
      exact (hkept.blocks i b).close
  | headReset =>
    refine h.of_blocks (hb := fun i b => ?_)
    rw [Head.block_of_idle rfl]
    exact Block.kept_reset _
  | openSegment =>
    refine h.of_blocks (hb := fun i b => ?_)
    rw [Head.block_openSegment]
    split_ifs
    · exact .of_empty rfl rfl rfl
    · exact Block.kept_reset _
  | finishJob _ _ _ _ hj => exact absurd hj hc
  | powerOn =>
    refine ⟨⟨Nat.zero_le _, Nat.zero_le _⟩, fun i b => ?_⟩
    rw [Head.block_of_idle rfl]
    exact Block.kept_reset _
  | deviceReset =>
    refine ⟨⟨Nat.zero_le _, Nat.zero_le _⟩, fun i b => ?_⟩
    rw [Head.block_of_idle rfl]
    exact Block.kept_reset _

/-! ### The result that a running job holds -/

/-- A block that is QUEUED after a change of a head was so before it, and as it is. -/
def Head.SameQueued (hd hd' : Head) : Prop :=
  ∀ i b, (hd'.block i b).state = .queued → hd'.block i b = hd.block i b ∧ hd'.geometry = hd.geometry

theorem Head.SameQueued.of_blocks {hd hd' : Head} (hb : hd'.blocks = hd.blocks := by rfl)
    (hg : hd'.geometry = hd.geometry := by rfl) : hd.SameQueued hd' := fun i b _ =>
  ⟨congrArg (fun v : Vector (Vector Block 16) 16 => v[i][b]) hb, hg⟩

theorem Head.SameQueued.of_none {hd hd' : Head} (hn : ∀ i b, (hd'.block i b).state ≠ .queued) : hd.SameQueued hd' :=
  fun i b hq => absurd hq (hn i b)

theorem Head.SameQueued.of_idle {hd hd' : Head} (hb : hd'.blocks = Head.idleBlocks) : hd.SameQueued hd' :=
  .of_none fun i b => by rw [Head.block_of_idle hb]; simp [Block.reset]

/-- A block in QUEUED after a stop was left by it as it was. -/
theorem Block.stop_of_queued {b : Block} (hq : b.stop.state = .queued) : b.stop = b := by
  by_cases hc : b.state = .collecting
  · simp [Block.stop, hc] at hq
  · simp [Block.stop, hc]

theorem Block.state_close_ne_queued (b : Block) : b.close.state ≠ .queued := by
  by_cases hc : b.state = .collecting ∨ b.state = .queued
  · simp [Block.close, hc]
  · rw [Block.close, if_neg hc]
    exact fun hq => hc (.inr hq)

theorem Head.Step.sameQueued {hd hd' : Head} (hm : hd.Step hd') (h : hd.BlocksInv) : hd.SameQueued hd' := by
  cases hm with
  | tweak ht => exact .of_blocks ht.blocks ht.geometry
  | stop i why =>
    intro j b hq
    refine ⟨?_, rfl⟩
    rw [Head.block_stopSite] at hq ⊢
    split_ifs at hq ⊢
    · exact Block.stop_of_queued hq
    · rfl
  | process i b it hb =>
    intro j c hq
    refine ⟨?_, rfl⟩
    rw [hd.block_setBlock] at hq ⊢
    split_ifs at hq ⊢
    · obtain ⟨-, -, -, -, hend⟩ := processItem_atRest it h.spares.1 h.spares.2 hb ((h.blocks i b).atRest hb)
      rcases hend with hu | ⟨hu, -⟩ <;> rw [hq] at hu <;> cases hu
    · rfl
  | geometry => exact .of_idle rfl
  | _ => exact .of_blocks

theorem Head.Change.sameQueued {c : Instr} {hd hd' : Head} (hm : hd.Change c hd') (hc : c ≠ .solveJobCompletion)
    (h : hd.BlocksInv) (hstate : hd.state = .solving) : hd.SameQueued hd' := by
  cases hm with
  | step hm => exact hm.sameQueued h
  | buffer _ hm => exact .of_blocks hm.blocks_eq.1 hm.blocks_eq.2
  | drained _ hd => rw [hstate] at hd; cases hd
  | slot => exact .of_blocks
  | lost k f loss x _ hk hf =>
    intro i b hq
    rw [hf] at hq ⊢
    refine ⟨?_, hk.geometry⟩
    have hkblock : (k hd).block i b = hd.block i b :=
      congrArg (fun v : Vector (Vector Block 16) 16 => v[i][b]) hk.blocks
    change (((k hd).closed (some loss)).block i b).state = .queued at hq
    show ((k hd).closed (some loss)).block i b = hd.block i b
    rcases (k hd).block_closed loss i b with he | he
    · rw [he, hkblock]
    · rw [he] at hq
      exact absurd hq (Block.state_close_ne_queued _)
  | headReset => exact .of_idle rfl
  | openSegment _ hr => rw [hstate] at hr; cases hr
  | finishJob _ _ _ _ hj => exact absurd hj hc
  | powerOn => exact .of_idle rfl
  | deviceReset => exact .of_idle rfl

/-! ### The part -/

/-- The result that a running job holds for a block in QUEUED is the one that the search finds on it (R136). -/
def State.JobSolves (s : State) : Prop :=
  ∀ j found, s.engine = .job j found false → ((s.head j.head).block j.site j.block).state = .queued →
    found = solve (s.head j.head).geometry ((s.head j.head).block j.site j.block)

theorem State.blockInv_iff (s : State) : s.BlockInv ↔ (∀ h, (s.head h).BlocksInv) ∧ s.JobSolves :=
  ⟨fun ⟨h1, h2, h3, h4, h5⟩ => ⟨fun h => ⟨h1 h, fun i b => ⟨h2 h i b, h3 h i b, h4 h i b⟩⟩, h5⟩,
    fun ⟨h1, h5⟩ => ⟨fun h => (h1 h).spares, fun h i b => ((h1 h).blocks i b).sound, fun h i b => ((h1 h).blocks i b).size,
      fun h i b => ((h1 h).blocks i b).atRest, h5⟩⟩

/-- A job that runs after a move ran before it, or has been taken by it. -/
theorem State.Move.job_cases {c : Instr} {s t : State} (hm : State.Move c s t) {j : SolveJob} {found : Option Solution}
    (hj : t.engine = .job j found false) :
    s.engine = .job j found false
      ∨ t.heads = s.heads ∧ found = solve (s.head j.head).geometry ((s.head j.head).block j.site j.block) := by
  cases hm with
  | lane h _ hm => rw [hm.frame] at hj; exact .inl hj
  | buffer h _ _ hm => cases hm; exact .inl hj
  | lost h _ hm =>
    cases hm
    rw [State.updHead_engine, State.close_frame] at hj
    exact .inl (Engine.job_of_overtake hj).1
  | headReset h =>
    rw [State.updHead_engine, State.close_frame] at hj
    exact .inl (Engine.job_of_overtake hj).1
  | shared _ _ _ hframe => rw [hframe] at hj; exact .inl hj
  | openSegment h => exact .inl (Engine.job_of_overtake hj).1
  | takeItem => cases hj
  | takeJob => cases hj; exact .inr ⟨rfl, rfl⟩
  | idle => cases hj
  | finishJob => cases hj
  | powerOn => cases hj
  | deviceReset => cases hj
  | elapse => exact .inl hj
  | reserve => exact .inl hj
  | dropItem => exact .inl hj
  | linkLoss => exact .inl hj

/-- A head whose job ends with what the search found on its block (R138 to R140). -/
theorem Head.BlocksInv.finishJob {hd : Head} (h : hd.BlocksInv) (j : SolveJob) {found : Option Solution} (last : Bool)
    (hf : found = solve hd.geometry (hd.block j.site j.block)) : (hd.finishJob j found last).BlocksInv := by
  have hset := h.setBlock j.site j.block ((h.blocks j.site j.block).complete hf)
  refine hset.congr ?_ ?_
  all_goals
    unfold Head.finishJob Head.settleSite
    split_ifs <;> rfl

theorem State.Move.blockInv {c : Instr} {s t : State} (hm : State.Move c s t) (hl : s.LifeCore) (hs : s.BlockInv) :
    t.BlockInv := by
  obtain ⟨hblocks, hjob⟩ := s.blockInv_iff.mp hs
  have hgeneral (d : Instr) (hd : d ≠ .solveJobCompletion) (hch : ∀ k, (s.head k).Change d (t.head k)) : t.BlockInv := by
    refine t.blockInv_iff.mpr ⟨fun k => (hch k).blocksInv hd (hblocks k), fun j found hj hq => ?_⟩
    rcases hm.job_cases hj with hold | ⟨hheads, hfound⟩
    · obtain ⟨hblock, hgeo⟩ := (hch j.head).sameQueued hd (hblocks _) (hl.job j found hold).2 _ _ hq
      rw [hblock] at hq
      rw [hblock, hgeo]
      exact hjob j found hold hq
    · rw [hfound, State.head, State.head, hheads]
  by_cases hc : c = .solveJobCompletion
  · subst hc
    cases hm with
    | lane h hc hm => exact hgeneral .powerOn (by simp) (hm.change .powerOn)
    | buffer h hc => cases hc
    | lost h hc => rcases hc with hc | hc | hc <;> cases hc
    | headReset h hc => cases hc
    | elapse n =>
      exact hgeneral .powerOn (by simp) fun k => by
        rw [State.head_elapse]
        exact .step (.tweak ((s.head k).tweak_elapse n))
    | shared _ _ _ hframe => exact hgeneral .powerOn (by simp) fun k => by rw [hframe]; exact .refl _ _
    | openSegment h hc => cases hc
    | reserve h a hc => cases hc
    | takeItem it rest hc => cases hc
    | dropItem it rest hc => cases hc
    | takeJob j rest hc => cases hc
    | idle => exact hgeneral .powerOn (by simp) fun _ => .refl _ _
    | finishJob j found last _ he _ hqueued =>
      refine (State.blockInv_iff _).mpr ⟨State.forall_head_updHead (f := fun hd => hd.finishJob j found last)
        (p := fun _ hd => hd.BlocksInv) ((hblocks j.head).finishJob j last (hjob j found he hqueued)) fun k _ => hblocks k,
        by rintro k f ⟨⟩⟩
    | linkLoss => exact hgeneral .powerOn (by simp) fun k => by rw [State.head_linkLoss]; exact .slot _
    | powerOn hc => cases hc
    | deviceReset r hc => cases hc
  · exact hgeneral c hc hm.change

theorem exec_blockInv {c : Instr} {s t : State} (he : exec c s = .next t) (hl : s.LifeCore) (hs : s.BlockInv) :
    t.LifeCore ∧ t.BlockInv :=
  (exec_moves he).keeps (P := fun u => u.LifeCore ∧ u.BlockInv)
    (fun _ _ hm hu => ⟨hm.lifeCore hu.1, hm.blockInv hu.1 hu.2⟩) ⟨hl, hs⟩

/-- Settles O47: the analysis by its invariant, and every step by the changes of a head, of which only the end of a job
reads more than the head; its result is the search's, on a block that nothing has changed since the take. -/
theorem itemProcessingKeepsTheBlockAtRest : Obligations.ItemProcessingKeepsTheBlockAtRest := by
  refine ⟨fun g b it hsr hsc hstate hrest => processItem_atRest it hsr hsc hstate hrest, fun s t hl hs he => ?_⟩
  refine (step_keeps_of_exec (P := fun u => u.LifeCore ∧ u.BlockInv)
    (fun u p h => ⟨⟨h.1.1, h.1.2, h.1.3, h.1.4, h.1.5⟩, h.2.1, h.2.2, h.2.3, h.2.4, h.2.5⟩) (fun u h => ?_)
    (fun _ _ _ he h => exec_blockInv he h.1 h.2) ⟨(s.lifeInv_iff.mp hl).1, hs⟩ he).2
  exact ⟨h.1.elapse 1, (State.Move.elapse (c := .powerOn) 1 rfl).blockInv h.1 h.2⟩

end Sys2Proof.Machine
end

section
/-! A new segment generation ends the older work of its head (2.1, 7.1, 8.1), an event on one head's lane leaves the
other heads alone (2.6 to 2.10, chapter 5), and the turns of the engine arbiter (7.2). -/

namespace Sys2Proof.Machine

theorem State.reply_frame (s : State) (st : Status) (body : ReplyBody) :
    s.reply st body
      = { s with upstream := (s.reply st body).upstream, executing := (s.reply st body).executing } := by
  unfold State.reply
  split <;> rfl

@[simp] theorem State.head_reply (s : State) (st : Status) (body : ReplyBody) (k : HeadId) :
    (s.reply st body).head k = s.head k := by
  rw [State.reply_frame]; rfl

/-- A request that changes something of a head has passed its checks. -/
theorem State.execute_of_head_changed {s : State} {form : RequestForm} {act : Request → State → State} {k : HeadId}
    (hne : (s.execute form act).head k ≠ s.head k) :
    ∃ r rest, form.accepted (s.take r rest) r.head = true ∧ s.execute form act = act r (s.take r rest) := by
  rcases s.execute_cases form act with heq | ⟨r, rest, -, -, -, ⟨st, heq⟩ | ⟨haccepted, heq⟩⟩
  · exact absurd (by rw [heq]) hne
  · exact absurd (by rw [heq, State.head_reply, State.head_take]) hne
  · exact ⟨r, rest, haccepted, heq⟩

/-! ### Generations (R20) -/

/-- The commands that may raise the generation of head `h`. -/
def Instr.endsWork (c : Instr) (h : HeadId) : Prop :=
  c = .segmentOpen ∨ c = .headReset ∨ c = .headStart ∨ c = .fenceTimerExpiry h ∨ c = .laneSignalLoss h
    ∨ c = .deviceReset ∨ c = .powerOn

theorem Head.Step.generation {hd hd' : Head} (hm : hd.Step hd') : hd'.generation = hd.generation := by
  cases hm with
  | tweak h => exact h.generation
  | _ => rfl

theorem Head.BufferStep.generation {hd hd' : Head} (hm : hd.BufferStep hd') : hd'.generation = hd.generation := by
  cases hm with
  | hold => unfold Head.refreshHold; split <;> rfl
  | _ => rfl

/-- A change of one head that keeps its generation keeps that of every head. -/
theorem State.onlyHead.generation {s t : State} {h : HeadId} (ho : s.onlyHead t h)
    (hself : (t.head h).generation = (s.head h).generation) (k : HeadId) :
    (t.head k).generation = (s.head k).generation := by
  by_cases hk : k = h
  · exact hk ▸ hself
  · rw [ho k hk]

theorem State.LaneMove.generation {h : HeadId} {s t : State} (hm : State.LaneMove h s t) (k : HeadId) :
    (t.head k).generation = (s.head k).generation := by
  refine hm.onlyHead.generation ?_ k
  cases hm with
  | head f hf => rw [State.head_updHead_self]; exact hf.generation
  | drain => rw [State.head_drainedState_self]; rfl
  | endAccess => rw [State.head_endAccess_self]
  | _ => rfl

theorem State.BufferMove.generation {h : HeadId} {s t : State} (hm : State.BufferMove h s t) (k : HeadId) :
    (t.head k).generation = (s.head k).generation := by
  cases hm with
  | mk f hf =>
    exact (State.onlyHead_updHead s h f).generation (by rw [State.head_updHead_self]; exact hf.generation) k

theorem State.RecordMoves.generation {h : HeadId} {s t : State} (hm : State.RecordMoves h s t) (k : HeadId) :
    (t.head k).generation = (s.head k).generation := by
  induction hm with
  | refl => rfl
  | tail _ hstep ih => exact (hstep.elim (·.generation k) (·.generation k)).trans ih

theorem State.Lost.onlyHead {h : HeadId} {s t : State} (hm : State.Lost h s t) : s.onlyHead t h := by
  cases hm with
  | mk k f c =>
    exact ((State.onlyHead_updHead s h k).trans (State.onlyHead_close _ h _)).trans (State.onlyHead_updHead _ h f)

theorem State.Move.generation {c : Instr} {s t : State} {h : HeadId} (hc : ¬ Instr.endsWork c h)
    (hm : State.Move c s t) : (t.head h).generation = (s.head h).generation := by
  simp only [Instr.endsWork, not_or] at hc
  obtain ⟨hopen, hreset, hstart, hfence, hloss, hdevice, hpower⟩ := hc
  cases hm with
  | lane k _ hm => exact hm.generation h
  | buffer k _ _ hm => exact hm.generation h
  | lost k hk hm =>
    rw [hm.onlyHead h]
    rintro rfl
    rcases hk with hk | hk | hk
    exacts [hstart hk, hfence hk, hloss hk]
  | headReset _ hk => exact absurd hk hreset
  | elapse n => rw [State.head_elapse]; rfl
  | shared _ _ _ hframe => rw [hframe]; rfl
  | openSegment _ hk => exact absurd hk hopen
  | reserve k a =>
    exact (State.onlyHead_updHead s k (fun hd => { hd with slot := some a })).generation
      (by rw [State.head_updHead_self]) h
  | takeItem => rfl
  | dropItem => rfl
  | takeJob => rfl
  | idle => rfl
  | finishJob j found last =>
    refine (State.onlyHead_updHead s j.head (fun hd => hd.finishJob j found last)).generation ?_ h
    rw [State.head_updHead_self, Head.finishJob_frame]
  | linkLoss => rw [State.head_linkLoss]
  | powerOn hk => exact absurd hk hpower
  | deviceReset _ hk => exact absurd hk hdevice

/-! ### The work of a head -/

/-- No work of head `h` is left: no item queued, no job waiting, and what the engine still does for it is overtaken. -/
structure State.Ended (s : State) (h : HeadId) : Prop where
  items : ∀ it ∈ s.analysis, it.head ≠ h
  jobs : ∀ j ∈ s.solveList, j.head ≠ h
  item : ∀ it, s.engine = .item it false → it.head ≠ h
  job : ∀ j found, s.engine = .job j found false → j.head ≠ h

theorem State.Ended.of_frame {s t : State} {h : HeadId} (hs : s.Ended h) (hitems : t.analysis = s.analysis)
    (hjobs : t.solveList = s.solveList) (hengine : t.engine = s.engine) : t.Ended h where
  items := hitems ▸ hs.items
  jobs := hjobs ▸ hs.jobs
  item := hengine ▸ hs.item
  job := hengine ▸ hs.job

theorem State.Ended.of_empty {s : State} (hitems : s.analysis = []) (hjobs : s.solveList = [])
    (hengine : s.engine = .idle) (h : HeadId) : s.Ended h where
  items := by simp [hitems]
  jobs := by simp [hjobs]
  item := by simp [hengine]
  job := by simp [hengine]

theorem State.Ended.updHead {s : State} {h : HeadId} (hs : s.Ended h) (k : HeadId) (f : Head → Head) :
    (s.updHead k f).Ended h := hs.of_frame rfl rfl rfl

theorem State.Ended.raise {s : State} {h : HeadId} (hs : s.Ended h) (k : HeadId) (e : HeadEvent) :
    (s.raise k e).Ended h := by
  apply hs.of_frame <;> rw [State.raise_frame]

theorem State.Ended.reply {s : State} {h : HeadId} (hs : s.Ended h) (st : Status) (body : ReplyBody) :
    (s.reply st body).Ended h := by
  apply hs.of_frame <;> rw [State.reply_frame]

/-- The closing actions end the work of their head (R31). -/
theorem State.ended_close (s : State) (h : HeadId) (loss : Option LossCause) : (s.close h loss).Ended h := by
  rw [State.close_frame]
  exact {
    items := fun it hit => by simpa using (List.mem_filter.mp hit).2
    jobs := fun j hj => by simpa using (List.mem_filter.mp hj).2
    item := fun _ hit => (Engine.item_of_overtake hit).2
    job := fun _ _ hj => (Engine.job_of_overtake hj).2 }

theorem State.ended_laneLoss (s : State) (h : HeadId) : (s.laneLoss h).Ended h :=
  ((s.ended_close h _).updHead h _).raise h _

theorem State.ended_resetHead (s : State) (h : HeadId) : (s.resetHead h).Ended h :=
  ((s.ended_close h _).updHead h _).raise h _

theorem State.onlyHead_laneLoss (s : State) (h : HeadId) : s.onlyHead (s.laneLoss h) h :=
  ((s.onlyHead_close h _).trans (State.onlyHead_updHead _ h _)).trans (State.onlyHead_raise _ h _)

theorem State.onlyHead_resetHead (s : State) (h : HeadId) : s.onlyHead (s.resetHead h) h :=
  ((s.onlyHead_close h _).trans (State.onlyHead_updHead _ h _)).trans (State.onlyHead_raise _ h _)

theorem State.onlyHead_startHead (s : State) (h : HeadId) : s.onlyHead (s.startHead h) h := by
  unfold State.startHead
  dsimp only
  split_ifs
  · exact State.onlyHead_updHead s h _
  · exact (State.onlyHead_updHead s h _).trans (State.onlyHead_laneLoss _ h)

/-- A change of one head that changes the generation of a head is one of that head. -/
theorem State.onlyHead.eq_of_generation {s t : State} {h k : HeadId} (ho : s.onlyHead t k)
    (hne : (t.head h).generation ≠ (s.head h).generation) : h = k :=
  by_contra fun hk => hne (by rw [ho h hk])

theorem execHeadStart_ended {s t : State} {h : HeadId} (he : execHeadStart s = .next t)
    (hne : (t.head h).generation ≠ (s.head h).generation) : t.Ended h := by
  cases he
  obtain ⟨r, rest, -, heq⟩ := State.execute_of_head_changed (fun heq => hne (congrArg Head.generation heq))
  rw [heq, State.head_reply] at hne
  rw [heq]
  obtain rfl := ((s.take r rest).onlyHead_startHead r.head).eq_of_generation hne
  unfold State.startHead at hne ⊢
  dsimp only at hne ⊢
  split_ifs at hne ⊢ with hsignal
  · exact absurd (by rw [State.head_updHead_self]; rfl) hne
  · exact (State.ended_laneLoss _ _).reply _ _

theorem execHeadReset_ended {s t : State} {h : HeadId} (he : execHeadReset s = .next t)
    (hne : (t.head h).generation ≠ (s.head h).generation) : t.Ended h := by
  cases he
  obtain ⟨r, rest, -, heq⟩ := State.execute_of_head_changed (fun heq => hne (congrArg Head.generation heq))
  rw [heq, State.head_reply] at hne
  rw [heq]
  obtain rfl := ((s.take r rest).onlyHead_resetHead r.head).eq_of_generation hne
  exact (State.ended_resetHead _ _).reply _ _

theorem execDeviceReset_ended {s t : State} {h : HeadId} (he : execDeviceReset s = .next t)
    (hne : (t.head h).generation ≠ (s.head h).generation) : t.Ended h := by
  cases he
  obtain ⟨r, rest, -, heq⟩ := State.execute_of_head_changed (fun heq => hne (congrArg Head.generation heq))
  rw [heq]
  exact .of_empty rfl rfl rfl h

theorem execFenceTimerExpiry_ended {s t : State} {h : HeadId} (he : execFenceTimerExpiry h s = .next t)
    (hne : (t.head h).generation ≠ (s.head h).generation) : t.Ended h := by
  rcases execFenceTimerExpiry_moves he with rfl | ⟨n, -, -, rfl⟩
  · exact absurd rfl hne
  · exact ((State.ended_close _ h _).updHead h _).raise h _

theorem execLaneSignalLoss_ended {s t : State} {h : HeadId} (he : execLaneSignalLoss h s = .next t)
    (hne : (t.head h).generation ≠ (s.head h).generation) : t.Ended h := by
  unfold execLaneSignalLoss at he
  dsimp only at he
  split_ifs at he with hsignal hmon <;> cases he
  · exact State.ended_laneLoss _ h
  · refine absurd ?_ hne
    rw [(State.settleLane_moves _ h).generation h, State.head_updHead_self, State.head_updHead_self]
  · exact absurd rfl hne

/-- SEGMENT_OPEN ends the items of its head and finds no job of it (R46). -/
theorem execSegmentOpen_ended {s t : State} {h : HeadId} (he : execSegmentOpen s = .next t)
    (hne : (t.head h).generation ≠ (s.head h).generation) :
    (∀ it ∈ t.analysis, it.head ≠ h) ∧ (s.LifeInv → ∀ j ∈ t.solveList, j.head ≠ h)
      ∧ (∀ it, t.engine = .item it false → it.head ≠ h) ∧ ∀ j found, t.engine = .job j found false → j.head ≠ h := by
  cases he
  obtain ⟨r, rest, haccepted, heq⟩ := State.execute_of_head_changed (fun heq => hne (congrArg Head.generation heq))
  rw [heq, State.head_reply] at hne
  obtain rfl := ((s.take r rest).onlyHead_openSegment r.head).eq_of_generation hne
  rw [heq, State.reply_frame]
  have hready : (s.head r.head).state = .ready := by simpa [RequestForm.accepted] using haccepted
  refine ⟨fun it hit => by simpa using (List.mem_filter.mp hit).2, fun hs j hj hh => ?_,
    fun _ hit => (Engine.item_of_overtake hit).2, fun _ _ hj => (Engine.job_of_overtake hj).2⟩
  have hsolving := (hs.jobs j hj).2
  rw [hh, hready] at hsolving
  cases hsolving

/-- Settles O59: only the commands that end a head's work raise its generation, and each of them leaves no work of the
head. -/
theorem newGenerationEndsOlderWork : Obligations.NewGenerationEndsOlderWork := by
  unfold Obligations.NewGenerationEndsOlderWork
  intro c s t h he hne
  have hends : Instr.endsWork c h := by
    by_contra hc
    exact hne ((exec_moves he).keeps (P := fun u => (u.head h).generation = (s.head h).generation)
      (fun u v hm hu => (hm.generation hc).trans hu) rfl)
  have hall (ht : t.Ended h) : (∀ it ∈ t.analysis, it.head ≠ h)
      ∧ (c ≠ .segmentOpen ∨ s.LifeInv → ∀ j ∈ t.solveList, j.head ≠ h)
      ∧ (∀ it, t.engine = .item it false → it.head ≠ h)
      ∧ (∀ j found, t.engine = .job j found false → j.head ≠ h) ∧ Instr.endsWork c h :=
    ⟨ht.items, fun _ => ht.jobs, ht.item, ht.job, hends⟩
  rcases id hends with rfl | rfl | rfl | rfl | rfl | rfl | rfl
  · obtain ⟨hitems, hjobs, hitem, hjob⟩ := execSegmentOpen_ended he hne
    exact ⟨hitems, fun hs => hjobs (hs.resolve_left (· rfl)), hitem, hjob, hends⟩
  · exact hall (execHeadReset_ended he hne)
  · exact hall (execHeadStart_ended he hne)
  · exact hall (execFenceTimerExpiry_ended he hne)
  · exact hall (execLaneSignalLoss_ended he hne)
  · exact hall (execDeviceReset_ended he hne)
  · cases he
    exact hall (.of_empty rfl rfl rfl h)

/-! ### Events of one lane -/

/-- Nothing but head `h`, the Upstream Queue with its reservations, and repair analysis has changed. -/
def State.Quiet (s t : State) (h : HeadId) : Prop :=
  s.onlyHead t h ∧ t = { s with
    heads := t.heads, upstream := t.upstream, reservations := t.reservations, analysis := t.analysis
    solveList := t.solveList, engine := t.engine, freeCount := t.freeCount }

theorem State.Quiet.refl (s : State) (h : HeadId) : s.Quiet s h := ⟨fun _ _ => rfl, rfl⟩

theorem State.Quiet.trans {s t u : State} {h : HeadId} (h1 : s.Quiet t h) (h2 : t.Quiet u h) : s.Quiet u h :=
  ⟨h1.1.trans h2.1, by rw [h2.2, h1.2]⟩

theorem State.quiet_updHead (s : State) (h : HeadId) (f : Head → Head) : s.Quiet (s.updHead h f) h :=
  ⟨State.onlyHead_updHead s h f, rfl⟩

theorem State.quiet_raise (s : State) (h : HeadId) (e : HeadEvent) : s.Quiet (s.raise h e) h :=
  ⟨State.onlyHead_raise s h e, by rw [State.raise_frame]⟩

theorem State.quiet_close (s : State) (h : HeadId) (loss : Option LossCause) : s.Quiet (s.close h loss) h :=
  ⟨State.onlyHead_close s h loss, by rw [State.close_frame]⟩

theorem State.quiet_fence (s : State) (h : HeadId) : s.Quiet (s.fence h) h :=
  ((s.quiet_close h _).trans (State.quiet_updHead _ h _)).trans (State.quiet_raise _ h _)

theorem State.LaneMove.quiet {h : HeadId} {s t : State} (hm : State.LaneMove h s t) : s.Quiet t h :=
  ⟨hm.onlyHead, by rw [hm.frame]⟩

theorem State.LaneMoves.quiet {h : HeadId} {s t : State} (hm : State.LaneMoves h s t) : s.Quiet t h := by
  induction hm with
  | refl => exact .refl s h
  | tail _ hmove ih => exact ih.trans hmove.quiet

theorem State.Lost.quiet {h : HeadId} {s t : State} (hm : State.Lost h s t) : s.Quiet t h := by
  cases hm with
  | mk k f c =>
    exact ((s.quiet_updHead h k).trans (State.quiet_close _ h _)).trans (State.quiet_updHead _ h f)

/-- A move of a command of one head's lane is one of that head. -/
theorem State.Move.quiet {c : Instr} {s t : State} {h : HeadId} (hlane : laneOf c = some h) (hm : State.Move c s t) :
    s.Quiet t h := by
  have hsome (hc : laneOf c = none) : False := by rw [hc] at hlane; cases hlane
  have heq {k : HeadId} (hc : laneOf c = some k) : k = h := Option.some.inj (hc.symm.trans hlane)
  cases hm with
  | lane k hc hm => exact heq (hc.resolve_left hsome) ▸ hm.quiet
  | buffer k hc _ hm =>
    obtain rfl := heq hc
    cases hm with
    | mk f => exact State.quiet_updHead s k f
  | lost k hc hm =>
    rcases hc with rfl | rfl | rfl
    · cases hlane
    · cases hlane
    · exact heq rfl ▸ hm.quiet
  | headReset _ hc => exact absurd hlane (by rw [hc]; nofun)
  | elapse _ hc => exact (hsome hc).elim
  | shared _ hc => exact (hsome hc).elim
  | openSegment _ hc => exact absurd hlane (by rw [hc]; nofun)
  | reserve _ _ hc => exact absurd hlane (by rw [hc]; nofun)
  | takeItem _ _ hc => exact absurd hlane (by rw [hc]; nofun)
  | dropItem _ _ hc => exact absurd hlane (by rw [hc]; nofun)
  | takeJob _ _ hc => exact absurd hlane (by rw [hc]; nofun)
  | idle hc => rcases hc with rfl | rfl <;> cases hlane
  | finishJob _ _ _ hc => exact absurd hlane (by rw [hc]; nofun)
  | linkLoss hc => exact (hsome hc.1).elim
  | powerOn hc => exact absurd hlane (by rw [hc]; nofun)
  | deviceReset _ hc => exact absurd hlane (by rw [hc]; nofun)

theorem Head.hunting_iff (hd : Head) : hd.hunting = true ↔ hd.state = .training ∧ hd.phase = some .hunt := by
  simp [Head.hunting]

theorem HeadState.monitored_iff (x : HeadState) : x.monitored = true ↔ x ≠ .offline ∧ x ≠ .fenced := by
  cases x <;> simp [HeadState.monitored]

/-- The oldest unanswered entry of a tracking queue is the one that follows its answered entries. -/
theorem oldestUnanswered_deadline_iff (q : List TrackEntry) (n : Nat) :
    (oldestUnanswered q).map TrackEntry.deadline = some (.running n)
      ↔ ∃ answered e later, q = answered ++ e :: later ∧ (∀ k ∈ answered, k.deadline = .answered)
        ∧ e.deadline = .running n := by
  unfold oldestUnanswered
  constructor
  · intro hq
    obtain ⟨e, he, hdeadline⟩ := Option.map_eq_some_iff.mp hq
    obtain ⟨-, answered, later, heq, hanswered⟩ := List.find?_eq_some_iff_append.mp he
    exact ⟨answered, e, later, heq, fun k hk => by simpa [TrackEntry.unanswered] using hanswered k hk, hdeadline⟩
  · rintro ⟨answered, e, later, rfl, hanswered, hdeadline⟩
    have he : e.unanswered = true := by simp [TrackEntry.unanswered, hdeadline]
    rw [List.find?_append, List.find?_eq_none.mpr fun k hk => by simp [TrackEntry.unanswered, hanswered k hk]]
    simp [he, hdeadline]

/-- Settles O60: each move of a lane's command is one of its own head, and a timed command is an event of its head on the
part after the time that it lets pass. -/
theorem laneEventsTouchTheirOwnHead : Obligations.LaneEventsTouchTheirOwnHead := by
  unfold Obligations.LaneEventsTouchTheirOwnHead
  refine ⟨fun c s t h hlane he => (exec_moves he).keeps (P := fun u => s.Quiet u h)
    (fun u v hm hu => hu.trans (hm.quiet hlane)) (.refl s h), fun s h => ?_⟩
  refine ⟨fun after t he => (execEcho_moves he).quiet, fun t n he hhunt hn => ?_, fun hno => ?_, fun t a he ha => ?_,
    fun hno => ?_, fun t n he hmon hn => ?_, fun hno => ?_, fun t n he hn => ?_, fun hno => ?_⟩
  · rw [← Head.hunting_iff] at hhunt
    change execRoundTripTimeout h s = .next t at he
    simp only [execRoundTripTimeout, hn, hhunt, if_true] at he
    cases he
    exact (State.failTraining_moves _ (.inl (by rwa [State.head_elapse, Head.hunting_elapse]))).quiet
  · rw [← Head.hunting_iff] at hno
    change execRoundTripTimeout h s = .next s
    unfold execRoundTripTimeout
    split
    · rfl
    · rename_i hn
      rw [if_neg (hno.resolve_right (by rw [hn]; nofun))]
  · change execProxyTimeout h s = .next t at he
    simp only [execProxyTimeout, ha] at he
    have hslot : ((s.elapse a.timer).head h).slot = some { a with timer := a.timer - a.timer } := by
      rw [State.head_elapse, Head.slot_elapse, ha]
      rfl
    split_ifs at he with horigin <;> cases he
    · exact (State.failTraining_moves _ (.inr ⟨_, hslot, horigin⟩)).quiet
    · exact (State.LaneMove.endAccess _ _ _ hslot horigin).quiet
  · change execProxyTimeout h s = .next s
    simp only [execProxyTimeout, hno]
  · rw [← HeadState.monitored_iff] at hmon
    change execFenceTimerExpiry h s = .next t at he
    simp only [execFenceTimerExpiry, hn, hmon, if_true] at he
    cases he
    exact State.quiet_fence _ h
  · rw [← HeadState.monitored_iff] at hno
    change execFenceTimerExpiry h s = .next s
    unfold execFenceTimerExpiry
    split
    · rfl
    · rename_i hn
      rw [if_neg (hno.resolve_right (by rw [hn]; nofun))]
  · change execTrackingExpiry h s = .next t at he
    unfold execTrackingExpiry at he
    rw [(oldestUnanswered_deadline_iff _ n).mpr hn] at he
    cases he
    exact (State.settleDeadlines_moves _ h).quiet
  · change execTrackingExpiry h s = .next s
    unfold execTrackingExpiry
    split
    · rename_i n hn
      exact absurd ((oldestUnanswered_deadline_iff _ n).mp hn) (hno n)
    · rfl

/-! ### The engine arbiter (R116) -/

/-- Only the takes, DEVICE_RESET and POWER_ON write the arbiter's count. -/
theorem State.Move.arbiterCount {c : Instr} {s t : State} (hc : c ≠ .itemTake ∧ c ≠ .solveJobTake ∧ c ≠ .powerOn
    ∧ c ≠ .deviceReset) (hm : State.Move c s t) : t.arbiterCount = s.arbiterCount := by
  obtain ⟨hitem, hjob, hpower, hdevice⟩ := hc
  cases hm with
  | lane h _ hm => rw [hm.frame]
  | buffer h _ _ hm => cases hm; rfl
  | lost h _ hm => rw [hm.quiet.2]
  | headReset h => rw [((s.quiet_close h none).trans (State.quiet_updHead _ h _)).2]
  | elapse => rfl
  | shared _ _ _ hframe => rw [hframe]
  | openSegment => rfl
  | reserve => rfl
  | takeItem _ _ hk => exact absurd hk hitem
  | dropItem _ _ hk => exact absurd hk hitem
  | takeJob _ _ hk => exact absurd hk hjob
  | idle => rfl
  | finishJob => rfl
  | linkLoss => rfl
  | powerOn hk => exact absurd hk hpower
  | deviceReset _ hk => exact absurd hk hdevice

theorem State.choosesItem_iff (s : State) : s.choosesItem = true
    ↔ s.engine = .idle ∧ s.analysis ≠ [] ∧ (s.solveList = [] ∨ s.arbiterCount < 8) := by
  simp [State.choosesItem, and_assoc]
  exact fun _ _ => Iff.rfl

theorem State.choosesJob_iff (s : State) : s.choosesJob = true
    ↔ s.engine = .idle ∧ s.solveList ≠ [] ∧ (s.analysis = [] ∨ 8 ≤ s.arbiterCount) := by
  simp [State.choosesJob, and_assoc]
  exact fun _ _ => Iff.rfl

theorem State.testDrain_frame (s : State) (h : HeadId) :
    s.testDrain h = { s with
      heads := (s.testDrain h).heads, upstream := (s.testDrain h).upstream, solveList := (s.testDrain h).solveList } := by
  rcases s.testDrain_cases h with ⟨heq, -⟩ | ⟨heq, -⟩
  · rw [heq, State.endDraining_frame]
  · rw [heq]

theorem State.itemEnded_frame (s : State) (it : FailItem) :
    s.itemEnded it = { s with
      heads := (s.itemEnded it).heads, upstream := (s.itemEnded it).upstream
      solveList := (s.itemEnded it).solveList } := by
  unfold State.itemEnded
  split_ifs
  · rw [State.testDrain_frame]
  · rfl

theorem State.itemEnded_of_current {s : State} {it : FailItem} (hgen : it.generation = (s.head it.head).generation) :
    s.itemEnded it = s.testDrain it.head := if_pos hgen

theorem State.itemEnded_eq_self {s : State} {it : FailItem}
    (hq : (s.head it.head).state ≠ .draining ∨ it.generation ≠ (s.head it.head).generation) : s.itemEnded it = s := by
  unfold State.itemEnded
  split_ifs with hgen
  · exact State.testDrain_eq_self (.inl (hq.resolve_right (· hgen)))
  · rfl

theorem execItemTake_of_choosesItem {s : State} {it : FailItem} {rest : List FailItem} (hq : s.analysis = it :: rest)
    (hturn : s.choosesItem = true) : execItemTake s = .next (s.takeItem it rest) := by
  simp only [execItemTake, hq, hturn, if_true]

theorem execItemTake_eq_self {s : State} (hturn : ¬ s.choosesItem = true) : execItemTake s = .next s := by
  unfold execItemTake
  split
  · rfl
  · rw [if_neg hturn]

theorem execSolveJobTake_eq_self {s : State} (hturn : ¬ s.choosesJob = true) : execSolveJobTake s = .next s := by
  unfold execSolveJobTake
  split
  · rfl
  · rw [if_neg hturn]

theorem State.takeItem_of_passes {s : State} {it : FailItem} (rest : List FailItem)
    (hpass : s.dequeuePasses it = true) : s.takeItem it rest = { s with
      analysis := rest, arbiterCount := min (s.arbiterCount + 1) 8, engine := .item it false } := if_pos hpass

theorem State.takeItem_of_not_passes {s : State} {it : FailItem} (rest : List FailItem)
    (hpass : ¬ s.dequeuePasses it = true) : s.takeItem it rest
      = ({ s with analysis := rest, arbiterCount := min (s.arbiterCount + 1) 8 } : State).itemEnded it := if_neg hpass

/-- Settles O44: the two choices are the two turns, an item that fails its check is followed by its end, and every other
command's moves keep the count. -/
theorem arbiterChoosesByTheCount : Obligations.ArbiterChoosesByTheCount := by
  unfold Obligations.ArbiterChoosesByTheCount
  intro s
  dsimp only
  simp only [← State.choosesItem_iff, ← State.choosesJob_iff, ← State.dequeuePasses_iff]
  refine ⟨fun it rest hq hturn => ⟨_, execItemTake_of_choosesItem hq hturn, ?_⟩, execItemTake_eq_self,
    fun j rest hq hturn => ?_, execSolveJobTake_eq_self, rfl, fun t he => ?_, fun r rest hr hp t he => ?_,
    fun c t hitem hjob hpower hdevice he => ?_⟩
  · by_cases hpass : s.dequeuePasses it = true
    · rw [State.takeItem_of_passes rest hpass]
      exact ⟨rfl, rfl, fun _ => rfl, fun hno => absurd hpass hno⟩
    · rw [State.takeItem_of_not_passes rest hpass]
      refine ⟨?_, ?_, fun h => absurd h hpass, fun _ => ⟨?_, ?_, ?_, ?_⟩⟩
      · rw [State.itemEnded_frame]
      · rw [State.itemEnded_frame]
      · rw [State.itemEnded_frame]
        exact ((s.choosesItem_iff).mp hturn).1
      · exact (State.itemEnded_moves { s with analysis := rest, arbiterCount := min (s.arbiterCount + 1) 8 } it).onlyHead
      · exact fun hgen => State.itemEnded_of_current hgen
      · exact fun hquiet => State.itemEnded_eq_self hquiet
  · change execSolveJobTake s = _
    simp only [execSolveJobTake, hq, hturn, if_true]
  · cases he
    rfl
  · cases he
    rw [State.execute_passes _ hr hp]
    rfl
  · exact (exec_moves he).keeps (P := fun u => u.arbiterCount = s.arbiterCount)
      (fun u v hm hu => (hm.arbiterCount ⟨hitem, hjob, hpower, hdevice⟩).trans hu) rfl

end Sys2Proof.Machine
end

section
/-! The step, the values after power-on, and the raising of an event (1.7, 2.1, 9.3). -/

namespace Sys2Proof.Machine

/-! ### The step -/

theorem step_of_pending {s : State} {c : Instr} {rest : List Instr} (hp : s.pending = c :: rest) :
    step s = exec c { s with pending := rest } := by
  simp only [step, hp]

theorem step_idle {s : State} (hp : s.pending = []) : step s = .next (s.elapse 1) := by
  simp only [step, hp]

/-- Settles O1: the step looks at the front of the queue. -/
theorem stepRunsFrontCommand : Obligations.StepRunsFrontCommand := fun _ _ _ hp => step_of_pending hp

/-- Settles O2: the idle step is the passing of one quantum, which each head takes by itself. -/
theorem idleStepLetsOneQuantumPass : Obligations.IdleStepLetsOneQuantumPass := by
  intro s hp
  refine ⟨_, step_idle hp, rfl, fun h => ?_⟩
  rw [State.head_elapse]
  have hdeadline : Deadline.elapse 1 = fun d => match d with
      | .running n => .running (n - 1)
      | d => d := by
    funext d
    cases d <;> rfl
  simp only [Head.elapse, hdeadline]
  rfl

/-! ### No command stops the part -/

/-- The outcome is a next state. -/
def Answers (o : Host.Outcome State Fault Refusal) : Prop := ∃ t, o = .next t

theorem Answers.next (t : State) : Answers (.next t) := ⟨t, rfl⟩

theorem Answers.ite {p : Prop} [Decidable p] {o o' : Host.Outcome State Fault Refusal} (h : Answers o)
    (h' : Answers o') : Answers (if p then o else o') := by
  split_ifs
  exacts [h, h']

theorem exec_request_answers {c : Instr} {form : RequestForm} (hc : requestFormOf c = some form) (s : State) :
    Answers (exec c s) := by
  obtain ⟨act, hact, -⟩ := exec_request hc
  exact ⟨_, hact s⟩

/-- Settles O3: the request commands are executions, and every branch of another command gives a next state. -/
theorem noCommandStops : Obligations.NoCommandStops := by
  intro c s
  change Answers (exec c s)
  cases c with
  | powerOn => exact .next _
  | syncAcquisition stream =>
    change Answers (execSyncAcquisition stream s)
    unfold execSyncAcquisition
    refine .ite ?_ (.next s)
    split <;> exact .next _
  | patternLinkLoss => exact .ite (.next _) (.next s)
  | burst => exact .ite (.next _) (.next s)
  | requestFrame => exact .ite (.next _) (.next s)
  | malformedFrame => exact .ite (.next _) (.next s)
  | frameCheckFailure => exact .ite (.ite (.next _) (.next _)) (.next s)
  | upstreamSend =>
    change Answers (execUpstreamSend s)
    unfold execUpstreamSend
    split
    exacts [.next s, .ite (.next _) (.next s)]
  | headBurstSend h =>
    change Answers (execHeadBurstSend h s)
    unfold execHeadBurstSend
    split
    exacts [.next s, .ite (.next _) (.next s)]
  | maintSend h =>
    change Answers (execMaintSend h s)
    unfold execMaintSend
    split
    exacts [.next s, .ite (.next _) (.next s)]
  | probeSend => exact .ite (.next _) (.next s)
  | burstTransmitEnd h =>
    change Answers (execBurstTransmitEnd h s)
    unfold execBurstTransmitEnd
    split <;> exact .next _
  | echo h after =>
    change Answers (execEcho h after s)
    unfold execEcho
    dsimp only
    refine .ite ?_ (.next _)
    split
    exacts [.ite (.next _) (.next _), .next _]
  | roundTripTimeout h =>
    change Answers (execRoundTripTimeout h s)
    unfold execRoundTripTimeout
    split
    exacts [.next s, .ite (.next _) (.next s)]
  | maintAnswer h body =>
    change Answers (execMaintAnswer h body s)
    unfold execMaintAnswer
    split
    exacts [.next s, .ite (.ite (.next _) (.next _)) (.next s)]
  | proxyTimeout h =>
    change Answers (execProxyTimeout h s)
    unfold execProxyTimeout
    split
    exacts [.next s, .ite (.next _) (.next _)]
  | supplyGoodFall => exact .ite (.next _) (.next s)
  | supplyGoodRise => exact .next _
  | fenceTimerExpiry h =>
    change Answers (execFenceTimerExpiry h s)
    unfold execFenceTimerExpiry
    split
    exacts [.next s, .ite (.next _) (.next s)]
  | laneSignalLoss => exact .ite (.ite (.next _) (.next _)) (.next s)
  | laneSignalReturn => exact .next _
  | unknownUnitDiscard => exact .next _
  | resultRecord => exact .ite (.next _) (.next s)
  | failEntryArrival => exact .ite (.next _) (.next s)
  | trackingExpiry h =>
    change Answers (execTrackingExpiry h s)
    unfold execTrackingExpiry
    split <;> exact .next _
  | failEntryAdmit => exact .next _
  | itemTake =>
    change Answers (execItemTake s)
    unfold execItemTake
    split
    exacts [.next s, .ite (.next _) (.next s)]
  | itemCompletion =>
    change Answers (execItemCompletion s)
    unfold execItemCompletion
    split <;> exact .next _
  | solveJobTake =>
    change Answers (execSolveJobTake s)
    unfold execSolveJobTake
    split
    exacts [.next s, .ite (.next _) (.next s)]
  | solveJobCompletion =>
    change Answers (execSolveJobCompletion s)
    unfold execSolveJobCompletion
    split
    exacts [.ite (.next _) (.next _), .next s]
  | _ => exact exec_request_answers rfl s

/-! ### Power-on (R18, R19) -/

@[simp] theorem State.head_reset (h : HeadId) : State.reset.head h = Head.reset := by
  simp [State.reset, State.head]

theorem Head.site_reset (i : SiteId) : Head.reset.site i = Site.reset := by
  simp [Head.reset, Head.site]

theorem Head.block_reset (i : SiteId) (b : BlockId) : Head.reset.block i b = Block.reset := Head.block_of_idle rfl i b

/-- Settles O4: the values are those of the definitions, and POWER_ON keeps the two inputs of each head. -/
theorem powerOnValues : Obligations.PowerOnValues := by
  refine ⟨⟨rfl, rfl, rfl, rfl, rfl, rfl, rfl, rfl, rfl, rfl, rfl, rfl, rfl, fun i => ?_⟩, State.head_reset, ?_,
    ⟨rfl, fun i => ?_, rfl, rfl, rfl, rfl⟩, Head.site_reset, Head.block_reset, fun s => ⟨_, rfl, rfl, s.head_poweredOn⟩⟩
  · simp [State.reset, Marker.reset, LatencyClass.reset]
  · exact ⟨rfl, rfl, rfl, rfl, rfl, rfl, rfl, rfl, rfl, rfl, rfl, rfl, rfl, rfl, rfl, rfl, rfl, rfl, rfl, rfl, rfl⟩
  · simp [Head.reset, Window.reset]

/-- Settles O57: after reset nothing is queued, under way or counted, and every Block Record is empty. -/
theorem resetMeetsTheInvariants : Obligations.ResetMeetsTheInvariants := by
  refine ⟨⟨rfl, by decide, by decide, List.nodup_nil, by decide, by decide, by decide, fun _ => ⟨rfl, rfl, rfl, rfl, rfl⟩⟩,
    ⟨fun h => ?_, by decide, by decide⟩, State.reset.lifeInv_iff.mpr ⟨.of_empty (fun h => ?_) rfl rfl rfl, fun h => ?_⟩,
    State.reset.blockInv_iff.mpr ⟨fun h => ?_, nofun⟩, fun h => ?_⟩ <;> rw [State.head_reset]
  · exact (Head.capacityInv_iff _).mpr ⟨.of_empty rfl rfl rfl rfl rfl fun i => by rw [Head.site_reset]; rfl,
      .of_empty rfl nofun rfl⟩
  · exact .of_closed rfl rfl rfl rfl rfl
  · exact ⟨nofun, fun ⟨a, ha, _⟩ => nomatch ha⟩
  · exact ⟨by decide, fun i b => Head.block_reset i b ▸ Block.kept_reset _⟩
  · exact ⟨.of_empty rfl rfl, .of_empty rfl⟩

/-! ### Raised events (9.3, 1.6) -/

theorem State.raise_of_isIn {s : State} {h : HeadId} {e : HeadEvent} (he : e.isIn (s.head h).events = true) :
    s.raise h e = s := if_pos he

/-- The bit of an event is its own alone. -/
theorem HeadEvent.isIn_or_bit (k e : HeadEvent) (set : BitVec 8) : k.isIn (set ||| e.bit) = (k.isIn set || k == e) := by
  have hbit : e.bit.getLsbD k.place = (k == e) := by cases k <;> cases e <;> decide
  rw [HeadEvent.isIn, BitVec.getLsbD_or, hbit, HeadEvent.isIn]

/-- Settles O51: by the rules on the raising of an event. -/
theorem raisedEventJoinsTheSetAndMayMakeANotice : Obligations.RaisedEventJoinsTheSetAndMayMakeANotice := by
  intro s h e
  dsimp only
  refine ⟨State.raise_of_isIn, fun hout => ⟨State.onlyHead_raise s h e, State.raise_frame s h e, fun k => ?_, ?_, ?_⟩⟩
  · rw [State.head_raise_self, HeadEvent.isIn_or_bit]
  · rw [State.head_raise_self]
  · rw [State.upstream_raise]
    simp [State.noticesFor]

end Sys2Proof.Machine
end

section
/-! The Pattern Link: the frame check, synchronisation and its loss, requests and upstream frames (chapter 1, 10.1). -/

namespace Sys2Proof.Machine

/-! ### The frame check (R159) -/

/-- The register after one 0 bit. -/
def crcShift (r : BitVec 16) : BitVec 16 := crcBit r false

theorem crcShift_eq (r : BitVec 16) : crcShift r = (r <<< 1) ^^^ (if r.getLsbD 15 then 0x1021#16 else 0#16) := by
  unfold crcShift crcBit
  cases r.getLsbD 15 <;> simp

/-- A bit at the top of the register. -/
def topBit (b : Bool) : BitVec 16 := if b then 0x8000 else 0

theorem getLsbD_topBit (b : Bool) {i : Nat} (hi : i < 16) : (topBit b).getLsbD i = (decide (i = 15) && b) := by
  cases b <;> interval_cases i <;> rfl

/-- A bit enters the register at its top. -/
theorem crcBit_eq (r : BitVec 16) (b : Bool) : crcBit r b = crcShift (r ^^^ topBit b) := by
  have hshift : (r ^^^ topBit b) <<< 1 = r <<< 1 := by
    rw [BitVec.shiftLeft_xor_distrib]
    cases b <;> simp [topBit]
  rw [crcShift_eq, hshift, BitVec.getLsbD_xor, getLsbD_topBit b (by decide), crcBit]
  cases r.getLsbD 15 <;> cases b <;> simp

/-- What stands below the top of the register is shifted by a bit. -/
theorem crcShift_xor_ushiftRight (r y : BitVec 16) (hy : y.getLsbD 0 = false) :
    crcShift (r ^^^ (y >>> 1)) = crcShift r ^^^ y := by
  have hback : (y >>> 1) <<< 1 = y := by
    refine BitVec.eq_of_getLsbD_eq fun i hi => ?_
    rw [BitVec.getLsbD_shiftLeft, BitVec.getLsbD_ushiftRight]
    rcases i with _ | i
    · simpa using hy
    · simp [hi, Nat.add_comm 1 i]
  have htop : (y >>> 1).getLsbD 15 = false := by simp
  rw [crcShift_eq, crcShift_eq, BitVec.shiftLeft_xor_distrib, hback, BitVec.getLsbD_xor, htop, Bool.xor_false]
  ac_rfl

/-- The bits of a list from the top of the register down. -/
def topBits : List Bool → BitVec 16
  | [] => 0
  | b :: bs => topBit b ^^^ (topBits bs >>> 1)

theorem getLsbD_topBits (bs : List Bool) {i : Nat} (hi : i < 16) : (topBits bs).getLsbD i = bs.getD (15 - i) false := by
  induction bs generalizing i with
  | nil => simp [topBits]
  | cons b bs ih =>
    rw [topBits, BitVec.getLsbD_xor, BitVec.getLsbD_ushiftRight, getLsbD_topBit b hi]
    by_cases h15 : i = 15
    · subst h15
      simp
    · have hidx : 15 - i = (15 - (1 + i)) + 1 := by omega
      rw [ih (by omega), hidx, List.getD_cons_succ]
      simp [h15]

/-- Up to 16 bits through the register are as many 0 bits after they have been added from the top down. -/
theorem foldl_crcBit (bs : List Bool) (r : BitVec 16) (hbs : bs.length ≤ 16) :
    bs.foldl crcBit r = crcShift^[bs.length] (r ^^^ topBits bs) := by
  induction bs generalizing r with
  | nil => simp [topBits]
  | cons b bs ih =>
    rw [List.length_cons] at hbs
    have hlow : (topBits bs).getLsbD 0 = false := by
      rw [getLsbD_topBits bs (by decide)]
      exact List.getD_eq_default _ _ (by omega)
    rw [List.foldl_cons, ih _ (by omega), crcBit_eq, List.length_cons, Function.iterate_succ_apply, topBits,
      ← crcShift_xor_ushiftRight _ _ hlow, BitVec.xor_assoc]

theorem crcShift_injective : Function.Injective crcShift := by
  intro x y hxy
  rw [crcShift_eq, crcShift_eq] at hxy
  have hbit (z : BitVec 16) : ((z <<< 1) ^^^ (if z.getLsbD 15 then 0x1021#16 else 0#16)).getLsbD 0 = z.getLsbD 15 := by
    rw [BitVec.getLsbD_xor, BitVec.getLsbD_shiftLeft]
    cases z.getLsbD 15 <;> simp
  have htop : x.getLsbD 15 = y.getLsbD 15 := by rw [← hbit x, ← hbit y, hxy]
  rw [htop, BitVec.xor_left_inj] at hxy
  refine BitVec.eq_of_getLsbD_eq fun i hi => ?_
  by_cases h15 : i = 15
  · exact h15 ▸ htop
  · have hnext := congrArg (BitVec.getLsbD · (i + 1)) hxy
    rw [BitVec.getLsbD_eq_getElem hi, BitVec.getLsbD_eq_getElem hi]
    simpa [BitVec.getLsbD_shiftLeft, show i + 1 < 16 by omega] using hnext

/-- The 16 bits of a check in the order sent. -/
def checkBits (c : BitVec 16) : List Bool := ((List.range 16).map (fun k => c.getLsbD (15 - k)))

theorem topBits_checkBits (c : BitVec 16) : topBits (checkBits c) = c := by
  refine BitVec.eq_of_getLsbD_eq fun i hi => ?_
  rw [getLsbD_topBits _ hi, checkBits, List.getD_eq_getElem?_getD, List.getElem?_map,
    List.getElem?_range (by omega)]
  simp only [Option.map_some, Option.getD_some]
  congr 1
  omega

theorem foldl_crcByte_check (r c : BitVec 16) :
    (natBytes 2 c.toNat).foldl crcByte r = (checkBits c).foldl crcBit r := by
  have hbits : checkBits c = ([7, 6, 5, 4, 3, 2, 1, 0].map (fun i => (BitVec.ofNat 8 (c.toNat / 256)).getLsbD i))
      ++ ([7, 6, 5, 4, 3, 2, 1, 0].map (fun i => (BitVec.ofNat 8 c.toNat).getLsbD i)) := by
    have hhi (i : Nat) (hi : i < 8) : (BitVec.ofNat 8 (c.toNat / 256)).getLsbD i = c.getLsbD (8 + i) := by
      rw [BitVec.getLsbD_ofNat, show (256 : Nat) = 2 ^ 8 from rfl, Nat.testBit_div_two_pow]
      simp [hi, BitVec.getLsbD, Nat.add_comm]
    have hlo (i : Nat) (hi : i < 8) : (BitVec.ofNat 8 c.toNat).getLsbD i = c.getLsbD i := by
      rw [BitVec.getLsbD_ofNat]
      simp [hi, BitVec.getLsbD]
    simp only [checkBits, show List.range 16 = [0, 1, 2, 3, 4, 5, 6, 7, 8, 9, 10, 11, 12, 13, 14, 15] from rfl, hhi, hlo,
      List.map_cons, List.map_nil, List.cons_append, List.nil_append, Nat.reduceLT, Nat.reduceSub, Nat.reduceAdd]
  rw [hbits, List.foldl_append, List.foldl_map, List.foldl_map]
  simp [natBytes, crcByte]

/-- Settles O7: the check's bits through the register are its 16 bits added to it and shifted, and the shift is
injective. -/
theorem checkPassesOnlyForTheRightCheck : Obligations.CheckPassesOnlyForTheRightCheck := by
  intro f
  have hend : (0x1D0F : BitVec 16) = crcShift^[16] 0xFFFF := by decide +kernel
  have hxor (r c : BitVec 16) : r ^^^ c = 0xFFFF ↔ c = ~~~ r := by
    rw [show (0xFFFF : BitVec 16) = BitVec.allOnes 16 from rfl, ← BitVec.xor_allOnes (x := r)]
    constructor
    · intro h
      rw [← h, ← BitVec.xor_assoc, BitVec.xor_self, BitVec.zero_xor]
    · rintro rfl
      rw [← BitVec.xor_assoc, BitVec.xor_self, BitVec.zero_xor]
  rw [LinkFrame.checkPasses, beq_iff_eq, LinkFrame.bytes, crcRegister, List.foldl_append, foldl_crcByte_check,
    foldl_crcBit _ _ (by simp [checkBits]), topBits_checkBits, hend, show (checkBits f.check).length = 16 by simp [checkBits],
    (crcShift_injective.iterate 16).eq_iff, hxor]
  rfl

/-! ### Received frames (R1, R2, R4, R7) -/

theorem LinkFrame.lengthFits_iff (f : LinkFrame) : f.lengthFits = true ↔ f.body.length ≤ 48 := decide_eq_true_iff

theorem LinkFrame.isRequest_iff (f : LinkFrame) : f.isRequest = true ↔ f.kind = 0x02 := beq_iff_eq

theorem LinkFrame.isBurst_iff (f : LinkFrame) : f.isBurst = true ↔ f.kind = 0x01 ∧ f.body.length = 11 := by
  simp [LinkFrame.isBurst]

theorem State.hears_iff (s : State) (f : LinkFrame) :
    s.hears f = true ↔ s.link = .inSync ∧ f.body.length ≤ 48 ∧ f.checkPasses = true := by
  simp [State.hears, ← LinkFrame.lengthFits_iff, and_assoc]

theorem execRequestFrame_of_hears {s : State} {f : LinkFrame} (hh : s.hears f = true) (hk : f.kind = 0x02) :
    execRequestFrame f s = .next (s.checkPassed.takeRequest (Request.read f.body)) :=
  if_pos ⟨hh, (LinkFrame.isRequest_iff f).mpr hk⟩

theorem execMalformedFrame_of_hears {s : State} {f : LinkFrame} (hh : s.hears f = true) (hk : f.kind ≠ 0x02)
    (hb : ¬ (f.kind = 0x01 ∧ f.body.length = 11)) :
    execMalformedFrame f s = .next s.checkPassed.discardFrame :=
  if_pos ⟨hh, mt (LinkFrame.isBurst_iff f).mp hb, mt (LinkFrame.isRequest_iff f).mp hk⟩

theorem execBurst_of_hears {s : State} {f : LinkFrame} (hh : s.hears f = true) (hk : f.kind = 0x01)
    (hl : f.body.length = 11) : execBurst f s = .next (s.checkPassed.takeBurst (Burst.read f.body)) :=
  if_pos ⟨hh, (LinkFrame.isBurst_iff f).mpr ⟨hk, hl⟩⟩

theorem State.takeRequest_of_room {s : State} (r : Request) (hroom : s.requests.length < 16) :
    s.takeRequest r = { s with requests := s.requests ++ [r] } := if_pos hroom

theorem State.takeRequest_of_full {s : State} (r : Request) (hfull : 16 ≤ s.requests.length) :
    s.takeRequest r = { s with requestDrops := min (s.requestDrops + 1) 65535 } := if_neg (Nat.not_lt.mpr hfull)

/-- Settles O8: a frame that is heard goes by its kind. -/
theorem requestsJoinAndOtherFramesAreCounted : Obligations.RequestsJoinAndOtherFramesAreCounted := by
  intro s f hlink hlen hcheck
  have hh := (s.hears_iff f).mpr ⟨hlink, hlen, hcheck⟩
  refine ⟨fun hk hroom => ?_, fun hk hfull => ?_, execMalformedFrame_of_hears hh⟩
  · exact (execRequestFrame_of_hears hh hk).trans (congrArg _ (State.takeRequest_of_room (s := s.checkPassed) _ hroom))
  · exact (execRequestFrame_of_hears hh hk).trans (congrArg _ (State.takeRequest_of_full (s := s.checkPassed) _ hfull))

/-! ### Pattern Link loss (R4) -/

theorem execPatternLinkLoss_of_arises {s : State} {cause : LinkLossCause} (hlink : s.link = .inSync)
    (hcause : lossArises cause = true) : execPatternLinkLoss cause s = .next s.linkLoss := if_pos ⟨hlink, hcause⟩

/-- A frame whose check fails is counted, and the eighth in a row ends the synchronisation. -/
theorem execFrameCheckFailure_of_fails {s : State} {f : LinkFrame} (hlink : s.link = .inSync)
    (hlen : f.body.length ≤ 48) (hcheck : f.checkPasses = false) :
    execFrameCheckFailure f s =
      if 8 ≤ s.failureRun + 1 then .next { s.discardFrame with failureRun := s.failureRun + 1 }.linkLoss
      else .next { s.discardFrame with failureRun := s.failureRun + 1 } :=
  if_pos ⟨hlink, (LinkFrame.lengthFits_iff f).mpr hlen, by simp [hcheck]⟩

/-- Settles O6: the three causes end in one loss, the last after the eighth failure has been counted. -/
theorem linkLossAndCheckFailures : Obligations.LinkLossAndCheckFailures := by
  intro s hlink
  dsimp only
  refine ⟨execPatternLinkLoss_of_arises hlink rfl,
    fun n hn => execPatternLinkLoss_of_arises hlink (decide_eq_true_iff.mpr hn),
    fun f hlen hcheck => ⟨fun hrun => ?_, fun hrun => ?_⟩⟩ <;> change execFrameCheckFailure f s = _ <;>
    rw [execFrameCheckFailure_of_fails hlink hlen hcheck]
  · rw [if_neg (by omega)]
    rfl
  · rw [if_pos (by omega)]
    rfl

end Sys2Proof.Machine
end

section
/-! The search for synchronisation (1.2), and the bytes of upstream frames (10.1, 10.3). -/

namespace Sys2Proof.Machine

/-! ### Numbers of two bytes (R158) -/

theorem natBytes_two_beNat {bs : List Byte} (hlen : bs.length = 2) : natBytes 2 (beNat bs) = bs := by
  obtain ⟨a, b, rfl⟩ := List.length_eq_two.mp hlen
  have ha := a.isLt
  have hb := b.isLt
  have hhi : (a.toNat * 256 + b.toNat) / 256 = a.toNat := by omega
  simp only [natBytes, beNat, List.foldl_cons, List.foldl_nil, Nat.zero_mul, Nat.zero_add, Nat.pow_one, Nat.pow_zero,
    Nat.div_one, hhi, BitVec.ofNat_toNat, BitVec.setWidth_eq]
  have hlo : BitVec.ofNat 8 (a.toNat * 256 + b.toNat) = b := by
    apply BitVec.eq_of_toNat_eq
    rw [BitVec.toNat_ofNat]
    omega
  rw [hlo]

theorem beNat_natBytes_two {v : Nat} (hv : v < 65536) : beNat (natBytes 2 v) = v := by
  simp only [natBytes, beNat, List.foldl_cons, List.foldl_nil, Nat.zero_mul, Nat.zero_add, Nat.pow_one, Nat.pow_zero,
    Nat.div_one, BitVec.toNat_ofNat]
  omega

/-! ### Candidates (R3) -/

theorem takeBytes_iff (n : Nat) (l : List LineSymbol) (bs : List Byte) (rest : List LineSymbol) :
    takeBytes n l = some (bs, rest) ↔ bs.length = n ∧ l = bs.map .byte ++ rest := by
  induction n generalizing l bs with
  | zero =>
    simp only [takeBytes, Option.some.injEq, Prod.mk.injEq, List.length_eq_zero_iff]
    constructor
    · rintro ⟨rfl, rfl⟩
      exact ⟨rfl, rfl⟩
    · rintro ⟨rfl, rfl⟩
      exact ⟨rfl, rfl⟩
  | succ n ih =>
    cases l with
    | nil => cases bs <;> simp [takeBytes]
    | cons x l =>
      cases x with
      | idle => cases bs <;> simp [takeBytes]
      | byte b =>
        cases bs with
        | nil => simp [takeBytes]
        | cons a bs =>
          simp [takeBytes, ih]
          tauto

/-- A frame of the length and the check that a candidate must have. -/
def LinkFrame.Candidate (f : LinkFrame) : Prop := f.body.length ≤ 48 ∧ f.checkPasses = true

/-- The symbols of a frame. -/
def LinkFrame.symbols (f : LinkFrame) : List LineSymbol := f.bytes.map .byte

theorem LinkFrame.symbols_eq (f : LinkFrame) : LinkFrame.symbols f
    = (f.kind :: natBytes 2 f.body.length).map .byte ++ (f.body.map .byte ++ (natBytes 2 f.check.toNat).map .byte) := by
  simp [LinkFrame.symbols, LinkFrame.bytes, LinkFrame.covered]

theorem takeBytes_map {n : Nat} {bs : List Byte} (hlen : bs.length = n) (rest : List LineSymbol) :
    takeBytes n (bs.map .byte ++ rest) = some (bs, rest) := (takeBytes_iff ..).mpr ⟨hlen, rfl⟩

theorem candidateAt_symbols {f : LinkFrame} (hf : LinkFrame.Candidate f) (rest : List LineSymbol) :
    candidateAt (LinkFrame.symbols f ++ rest) = some (f, rest) := by
  obtain ⟨hlen, hpass⟩ := hf
  have hbody : beNat ((f.kind :: natBytes 2 f.body.length).drop 1) = f.body.length := beNat_natBytes_two (by omega)
  have hcheck : BitVec.ofNat 16 (beNat (natBytes 2 f.check.toNat)) = f.check := by
    rw [beNat_natBytes_two f.check.isLt, BitVec.ofNat_toNat, BitVec.setWidth_eq]
  have hmax : f.body.length ≤ Config.maxBody := hlen
  rw [LinkFrame.symbols_eq, List.append_assoc, List.append_assoc]
  unfold candidateAt
  rw [takeBytes_map (by simp)]
  dsimp only
  rw [hbody, if_pos hmax, takeBytes_map rfl]
  dsimp only
  rw [takeBytes_map (by simp)]
  dsimp only
  rw [hcheck]
  exact if_pos hpass

theorem candidateAt_iff (l : List LineSymbol) (f : LinkFrame) (rest : List LineSymbol) :
    candidateAt l = some (f, rest) ↔ LinkFrame.Candidate f ∧ l = LinkFrame.symbols f ++ rest := by
  refine ⟨fun hc => ?_, fun ⟨hf, hl⟩ => hl ▸ candidateAt_symbols hf rest⟩
  unfold candidateAt at hc
  split at hc
  · cases hc
  · rename_i head l1 hhead
    dsimp only at hc
    split_ifs at hc with hlen
    split at hc
    · cases hc
    · rename_i body l2 hbody
      split at hc
      · cases hc
      · rename_i check l3 hcheck
        split_ifs at hc with hpass
        cases hc
        obtain ⟨hheadlen, rfl⟩ := (takeBytes_iff _ _ _ _).mp hhead
        obtain ⟨hbodylen, rfl⟩ := (takeBytes_iff _ _ _ _).mp hbody
        obtain ⟨hchecklen, rfl⟩ := (takeBytes_iff _ _ _ _).mp hcheck
        refine ⟨⟨by rw [hbodylen]; exact hlen, hpass⟩, ?_⟩
        obtain ⟨k, ab, rfl⟩ := List.exists_cons_of_length_eq_add_one hheadlen
        have hab : ab.length = 2 := Nat.succ.inj hheadlen
        have hchecktop : beNat check < 65536 := by
          obtain ⟨a, b, rfl⟩ := List.length_eq_two.mp hchecklen
          have ha := a.isLt
          have hb := b.isLt
          simp only [beNat, List.foldl_cons, List.foldl_nil, Nat.zero_mul, Nat.zero_add]
          omega
        rw [LinkFrame.symbols_eq]
        dsimp only
        rw [hbodylen, List.drop_succ_cons, List.drop_zero, natBytes_two_beNat hab, BitVec.toNat_ofNat,
          Nat.mod_eq_of_lt hchecktop, natBytes_two_beNat hchecklen]
        simp

/-! ### Pairs (R3) -/

theorem skipIdle_eq (l : List LineSymbol) : ∃ fill, (∀ x ∈ fill, x = .idle) ∧ l = fill ++ skipIdle l := by
  induction l with
  | nil => exact ⟨[], nofun, rfl⟩
  | cons x l ih =>
    cases x with
    | byte b => exact ⟨[], nofun, rfl⟩
    | idle =>
      obtain ⟨fill, hfill, hl⟩ := ih
      exact ⟨.idle :: fill, by simpa using hfill, congrArg (LineSymbol.idle :: ·) hl⟩

theorem skipIdle_fill {fill : List LineSymbol} (hfill : ∀ x ∈ fill, x = .idle) (b : Byte) (l : List LineSymbol) :
    skipIdle (fill ++ .byte b :: l) = .byte b :: l := by
  induction fill with
  | nil => rfl
  | cons x fill ih =>
    obtain ⟨rfl, htail⟩ := List.forall_mem_cons.mp hfill
    exact ih htail

/-- A stream that begins with a candidate and its successor, with idle fill only between them. -/
def StartsPair (l : List LineSymbol) (f : LinkFrame) (post : List LineSymbol) : Prop :=
  ∃ first fill, l = LinkFrame.symbols first ++ (fill ++ (LinkFrame.symbols f ++ post)) ∧ (∀ x ∈ fill, x = .idle)
    ∧ LinkFrame.Candidate first ∧ LinkFrame.Candidate f

theorem pairAt_iff (l : List LineSymbol) (f : LinkFrame) (post : List LineSymbol) :
    pairAt l = some (f, post) ↔ StartsPair l f post := by
  constructor
  · intro hp
    unfold pairAt at hp
    split at hp
    · cases hp
    · rename_i first rest hfirst
      obtain ⟨hc, rfl⟩ := (candidateAt_iff _ _ _).mp hfirst
      obtain ⟨hf, hrest⟩ := (candidateAt_iff _ _ _).mp hp
      obtain ⟨fill, hfill, heq⟩ := skipIdle_eq rest
      exact ⟨first, fill, by rw [← hrest, ← heq], hfill, hc, hf⟩
  · rintro ⟨first, fill, rfl, hfill, hc, hf⟩
    unfold pairAt
    rw [candidateAt_symbols hc]
    have hskip : skipIdle (fill ++ (LinkFrame.symbols f ++ post)) = LinkFrame.symbols f ++ post := skipIdle_fill hfill _ _
    dsimp only
    rw [hskip, candidateAt_symbols hf]

theorem mem_pairsOf_iff (l : List LineSymbol) (f : LinkFrame) (n : Nat) :
    (f, n) ∈ pairsOf l ↔ ∃ pre rest post, l = pre ++ rest ∧ StartsPair rest f post ∧ post.length = n := by
  induction l with
  | nil =>
    simp only [pairsOf, List.not_mem_nil, false_iff]
    rintro ⟨pre, rest, post, hl, ⟨first, fill, rfl, -⟩, -⟩
    simp [LinkFrame.symbols_eq] at hl
  | cons x l ih =>
    rw [pairsOf, List.mem_append, ih, Option.mem_toList, Option.map_eq_some_iff]
    constructor
    · rintro (⟨⟨g, post⟩, hp, hg⟩ | ⟨pre, rest, post, rfl, hs, hn⟩)
      · cases hg
        exact ⟨[], _, post, rfl, (pairAt_iff _ _ _).mp hp, rfl⟩
      · exact ⟨x :: pre, rest, post, rfl, hs, hn⟩
    · rintro ⟨pre, rest, post, hl, hs, hn⟩
      cases pre with
      | nil => exact .inl ⟨(f, post), (pairAt_iff _ _ _).mpr (hl ▸ hs), by rw [← hn]⟩
      | cons y pre => exact .inr ⟨pre, rest, post, (List.cons.inj hl).2, hs, hn⟩

/-- A pair completes in the stream, with `post` after it. -/
def CompletesPair (stream : List LineSymbol) (f : LinkFrame) (post : List LineSymbol) : Prop :=
  ∃ pre rest, stream = pre ++ rest ∧ StartsPair rest f post

theorem mem_acquiredFrames_iff (stream : List LineSymbol) (f : LinkFrame) :
    f ∈ acquiredFrames stream
      ↔ CompletesPair stream f [] ∧ ∀ g post, CompletesPair stream g post → post = [] := by
  have hmem (g : LinkFrame) (n : Nat) :
      (g, n) ∈ pairsOf stream ↔ ∃ post, CompletesPair stream g post ∧ post.length = n := by
    rw [mem_pairsOf_iff]
    exact ⟨fun ⟨pre, rest, post, hl, hs, hn⟩ => ⟨post, ⟨pre, rest, hl, hs⟩, hn⟩,
      fun ⟨post, ⟨pre, rest, hl, hs⟩, hn⟩ => ⟨pre, rest, post, hl, hs, hn⟩⟩
  have hall : (pairsOf stream).all (fun p => p.2 == 0) = true ↔ ∀ g post, CompletesPair stream g post → post = [] := by
    rw [List.all_eq_true]
    constructor
    · intro h g post hp
      simpa using h _ ((hmem g _).mpr ⟨post, hp, rfl⟩)
    · rintro h ⟨g, n⟩ hg
      obtain ⟨post, hp, rfl⟩ := (hmem g n).mp hg
      simp [h g post hp]
  unfold acquiredFrames
  dsimp only
  split_ifs with hzero
  · rw [hall] at hzero
    simp only [List.mem_map, Prod.exists]
    constructor
    · rintro ⟨g, n, hg, rfl⟩
      obtain ⟨post, hp, -⟩ := (hmem g n).mp hg
      exact ⟨hzero g post hp ▸ hp, hzero⟩
    · rintro ⟨hp, -⟩
      exact ⟨f, 0, (hmem f 0).mpr ⟨[], hp, rfl⟩, rfl⟩
  · rw [hall] at hzero
    simp only [List.not_mem_nil, false_iff]
    exact fun h => hzero h.2

theorem candidate_of_mem_acquiredFrames {stream : List LineSymbol} {f : LinkFrame} (hf : f ∈ acquiredFrames stream) :
    LinkFrame.Candidate f := by
  obtain ⟨⟨-, -, -, -, -, -, -, -, hc⟩, -⟩ := (mem_acquiredFrames_iff stream f).mp hf
  exact hc

/-! ### What the second frame does (R1, R3) -/

theorem State.receive_burst (s : State) {f : LinkFrame} (hk : f.kind = 0x01) (hl : f.body.length = 11) :
    s.receive f = s.checkPassed.takeBurst (Burst.read f.body) := if_pos ((LinkFrame.isBurst_iff f).mpr ⟨hk, hl⟩)

theorem State.receive_request (s : State) {f : LinkFrame} (hk : f.kind = 0x02) :
    s.receive f = s.checkPassed.takeRequest (Request.read f.body) := by
  have hb : ¬ f.isBurst = true := by
    rw [LinkFrame.isBurst_iff, hk]
    exact fun h => absurd h.1 (by decide)
  exact (if_neg hb).trans (if_pos ((LinkFrame.isRequest_iff f).mpr hk))

theorem State.receive_other (s : State) {f : LinkFrame} (hk : f.kind ≠ 0x02)
    (hb : ¬ (f.kind = 0x01 ∧ f.body.length = 11)) : s.receive f = s.checkPassed.discardFrame :=
  (if_neg (mt (LinkFrame.isBurst_iff f).mp hb)).trans (if_neg (mt (LinkFrame.isRequest_iff f).mp hk))

/-- In IN_SYNC a candidate is acted on by the command of its kind. -/
theorem exec_of_candidate {s : State} {f : LinkFrame} (hlink : s.link = .inSync) (hf : LinkFrame.Candidate f) :
    (if f.kind = 0x01 ∧ f.body.length = 11 then exec (.burst f) s
      else if f.kind = 0x02 then exec (.requestFrame f) s else exec (.malformedFrame f) s) = .next (s.receive f) := by
  have hh := (s.hears_iff f).mpr ⟨hlink, hf.1, hf.2⟩
  split_ifs with hb hk
  · rw [s.receive_burst hb.1 hb.2]
    exact execBurst_of_hears hh hb.1 hb.2
  · rw [s.receive_request hk]
    exact execRequestFrame_of_hears hh hk
  · rw [s.receive_other hk hb]
    exact execMalformedFrame_of_hears hh hk hb

theorem execSyncAcquisition_none {s : State} {stream : List LineSymbol} (hno : acquiredFrames stream = []) :
    execSyncAcquisition stream s = .next s := by
  unfold execSyncAcquisition
  split_ifs
  · rw [hno]
  · rfl

theorem execSyncAcquisition_one {s : State} {stream : List LineSymbol} {f : LinkFrame} (hlink : s.link = .outOfSync)
    (hone : acquiredFrames stream = [f]) : execSyncAcquisition stream s = .next (s.acquire f) := by
  rw [execSyncAcquisition, if_pos hlink, hone]

theorem execSyncAcquisition_many {s : State} {stream : List LineSymbol} (hlink : s.link = .outOfSync)
    (hmany : 2 ≤ (acquiredFrames stream).length) : ∃ f ∈ acquiredFrames stream,
      execSyncAcquisition stream s = .next ({ s with freeCount := s.freeCount + 1 }.acquire f) := by
  rw [execSyncAcquisition, if_pos hlink]
  split
  · rename_i hnil
    rw [hnil] at hmany
    exact absurd hmany (by decide)
  · rename_i f hone
    rw [hone] at hmany
    exact absurd hmany (by simp)
  · rename_i f fs _ heq
    have hlt : Config.freeCandidate s.freeCount % (f :: fs).length < (f :: fs).length := Nat.mod_lt _ (Nat.succ_pos _)
    refine ⟨_, ?_, rfl⟩
    rw [heq, List.getD_eq_getElem _ _ hlt]
    exact List.getElem_mem hlt

/-- A first burst that names no head sets the expectation alone. -/
theorem State.takeBurst_unnamed {s : State} {b : Burst} (hexpected : s.expected = none) (hmask : b.headMask = 0) :
    s.takeBurst b = { s with expected := some (b.sequence + 1) } := by
  have hgap : s.revealsGap b = false := by simp [State.revealsGap, hexpected]
  have hheads : b.heads = [] := by simp [Burst.heads, hmask]
  simp [State.takeBurst, hgap, State.distribute, hheads, State.inAnyOrder, orders]

/-- Settles O5: the frames found are those of the pairs, and the one acted on goes by its kind. -/
theorem syncAcquisitionStartsTheLink : Obligations.SyncAcquisitionStartsTheLink := by
  intro s stream
  dsimp only
  have hpair (f : LinkFrame) (post : List LineSymbol) :
      (∃ (pre : List LineSymbol) (first : LinkFrame) (fill : List LineSymbol),
        stream = pre ++ first.bytes.map .byte ++ fill ++ f.bytes.map .byte ++ post ∧ (∀ x ∈ fill, x = .idle)
        ∧ first.body.length ≤ 48 ∧ first.checkPasses = true ∧ f.body.length ≤ 48 ∧ f.checkPasses = true) ↔ CompletesPair stream f post := by
    constructor
    · rintro ⟨pre, first, fill, rfl, hfill, h1, h2, h3, h4⟩
      exact ⟨pre, _, by simp [LinkFrame.symbols], first, fill, rfl, hfill, ⟨h1, h2⟩, h3, h4⟩
    · rintro ⟨pre, rest, rfl, first, fill, rfl, hfill, ⟨h1, h2⟩, h3, h4⟩
      exact ⟨pre, first, fill, by simp [LinkFrame.symbols], hfill, h1, h2, h3, h4⟩
  simp only [hpair]
  refine ⟨fun f => mem_acquiredFrames_iff stream f, fun hlink => ⟨fun hno => execSyncAcquisition_none hno,
    fun f hone => ?_, fun hmany => ?_⟩, fun hlink => ?_⟩
  · have hcand := candidate_of_mem_acquiredFrames (stream := stream) (f := f) (by simp [hone])
    have hexec : exec (.syncAcquisition stream) s = .next ({ s with link := .inSync, failureRun := 0 }.receive f) :=
      execSyncAcquisition_one hlink hone
    rw [hexec]
    refine ⟨(exec_of_candidate rfl hcand).symm, fun hk hroom => ?_, fun hk hfull => ?_, fun hk hl hexp hmask => ?_,
      fun hk hb => ?_⟩
    · rw [State.receive_request _ hk]
      exact congrArg _ (State.takeRequest_of_room (s := { s with link := .inSync, failureRun := 0 }) _ hroom)
    · rw [State.receive_request _ hk]
      exact congrArg _ (State.takeRequest_of_full (s := { s with link := .inSync, failureRun := 0 }) _ hfull)
    · rw [State.receive_burst _ hk hl]
      exact congrArg _ (State.takeBurst_unnamed (s := { s with link := .inSync, failureRun := 0 }) hexp hmask)
    · rw [State.receive_other _ hk hb]
      rfl
  · obtain ⟨f, hf, hexec⟩ := execSyncAcquisition_many hlink hmany
    exact ⟨f, hf, hexec.trans (exec_of_candidate rfl (candidate_of_mem_acquiredFrames hf)).symm⟩
  · exact if_neg (by simp [hlink])

end Sys2Proof.Machine
end

section
/-! The bytes of upstream frames (1.6, 10.3). -/

namespace Sys2Proof.Machine

theorem natBytes_two (v : Nat) : natBytes 2 v = [BitVec.ofNat 8 (v / 256), BitVec.ofNat 8 v] := by
  simp [natBytes]

theorem natBytes_four (v : Nat) : natBytes 4 v = natBytes 2 (v / 65536) ++ natBytes 2 v := by
  simp [natBytes, Nat.div_div_eq_div_mul]

theorem listField_eq {α : Type} (enc : α → List Byte) (l : List α) :
    listField enc l = BitVec.ofNat 8 (l.map enc).length :: (l.map enc).flatten := by
  rw [List.length_map, ← List.flatMap_def]
  rfl

theorem execUpstreamSend_of_inSync {s : State} {f : UpFrame} {rest : List UpFrame} (hlink : s.link = .inSync)
    (hq : s.upstream = f :: rest) : execUpstreamSend s = .next { s with upstream := rest, linkOut := f.bytes } := by
  simp only [execUpstreamSend, hq, hlink, if_true]

/-- A reply is kind 3 and a notice kind 4 (R1, R161). -/
theorem UpFrame.bytes_sealed (f : UpFrame) : ∃ kind body, f.bytes = (LinkFrame.sealed kind body).bytes
    ∧ (kind = 0x03 ↔ ∃ r, f = .reply r) ∧ (kind = 0x04 ↔ ∃ n, f = .notice n)
    ∧ (∀ r, f = .reply r → body = r.id :: r.code :: r.status.code :: r.body.bytes)
    ∧ (∀ n, f = .notice n → body = [BitVec.ofNat 8 n.head.val, n.state.code, n.events]) := by
  cases f with
  | reply r => exact ⟨0x03, _, rfl, by simp, by simp, by rintro _ ⟨⟩; rfl, by simp⟩
  | notice n => exact ⟨0x04, _, rfl, by simp, by simp, by simp, by rintro _ ⟨⟩; rfl⟩

/-- Settles O9: the codes are those of the tables, and each body is its fields in order. -/
theorem upstreamSendSendsTheOldestFrame : Obligations.UpstreamSendSendsTheOldestFrame := by
  refine ⟨fun s f rest hlink hq => ?_, by decide, by decide, by decide, by decide, by decide, by decide, by decide,
    by decide, by decide, by decide, by decide, by decide, by decide, by decide, ?_⟩
  · obtain ⟨kind, body, hbytes, hreply, hnotice, hr, hn⟩ := f.bytes_sealed
    exact ⟨kind, body, hbytes, hreply, hnotice, hr, hn, hbytes ▸ execUpstreamSend_of_inSync hlink hq⟩
  · intro one two four yes opt counted setup
    have hone : natBytes 1 = one := funext fun v => by simp [natBytes, one]
    have htwo : natBytes 2 = two := funext natBytes_two
    have hfour : natBytes 4 = four := funext fun v => by rw [natBytes_four, htwo]
    have hopt (n : Nat) (v : Option Nat) : optField n v = opt (natBytes n) v := by cases v <;> rfl
    have hlist {α : Type} (enc : α → List Byte) (l : List α) : listField enc l = counted (l.map enc) := listField_eq enc l
    have hyes : flagByte = yes := rfl
    have hbyte (n : Nat) : [oneByte n] = one n := rfl
    refine ⟨fun _ => rfl, fun r => ?_, fun g => rfl, fun w => ?_, fun b => ?_, fun _ _ => rfl, fun r => ?_,
      fun entries overrun left => ?_, rfl, fun _ => rfl, fun x => ?_, fun x => ?_, fun limit on => ?_, fun c => ?_,
      fun _ => rfl, fun crc drops expected heads frames reserved => ?_⟩
    · simp only [ReplyBody.bytes, HeadReport.bytes, hone, htwo, hfour, hopt, hyes, List.append_assoc]
      cases r.profile <;> simp only [profileBytes, htwo] <;> rfl
    · simp only [ReplyBody.bytes, Window.bytes, hfour, hyes]
    · have henc : FailListEntry.bytes = fun e => two e.row ++ two e.col ++ one e.hits ++ four e.firstVector.toNat :=
        funext fun e => by simp only [FailListEntry.bytes, htwo, hfour]; rfl
      simp only [ReplyBody.bytes, Block.bytes, htwo, hlist, henc, List.append_assoc]
      rfl
    · have henc : BlockReport.bytes = fun b => b.state.code :: (counted (b.rows.map two) ++ counted (b.cols.map two)
          ++ one b.failCount ++ two b.coveredHits) :=
        funext fun b => by simp only [BlockReport.bytes, htwo, hlist, List.append_assoc]; rfl
      simp only [ReplyBody.bytes, RepairReport.bytes, htwo, hlist, hyes, henc]
    · have henc : LogEntry.bytes = fun e => e.kind.code :: (one e.site.val ++ opt one (e.block.map (fun b => b.val))
          ++ opt two e.row ++ opt two e.col ++ opt four (e.word.map (fun w => w.toNat)) ++ four e.vectorIndex.toNat) :=
        funext fun e => by simp only [LogEntry.bytes, hone, htwo, hfour, hopt, List.append_assoc]; rfl
      simp only [ReplyBody.bytes, htwo, hlist, hyes, henc]
    · simp only [ReplyBody.bytes, htwo]
    · simp only [ReplyBody.bytes, hfour]
    · simp only [ReplyBody.bytes, htwo, hyes]
    · simp only [ReplyBody.bytes, LatencyClass.bytes, htwo, hyes]
    · simp only [ReplyBody.bytes, htwo, hopt]
      cases expected <;> rfl

end Sys2Proof.Machine
end

section
/-! The units that a lane sends, the end of a transmission, the supply line and the lane signal (2.3, 2.6, 2.7, 2.10,
4.5). -/

namespace Sys2Proof.Machine

/-- The outcome of a command that does one thing to one head. -/
theorem exists_of_updHead {o : Host.Outcome State Fault Refusal} (s : State) (h : HeadId) (f : Head → Head)
    (ho : o = .next (s.updHead h f)) :
    ∃ t, o = .next t ∧ s.onlyHead t h ∧ t = { s with heads := t.heads } ∧ t.head h = f (s.head h) :=
  ⟨_, ho, State.onlyHead_updHead s h f, rfl, State.head_updHead_self s h f⟩

/-! ### The lane arbiter (R76) -/

theorem Head.laneFree_iff (hd : Head) : hd.laneFree = true ↔ hd.transmitting = none ∧ hd.laneSignal = true := by
  simp [Head.laneFree]

theorem execHeadBurstSend_of_free {s : State} {h : HeadId} {b : HeadBurst} {rest : List HeadBurst}
    (hfree : (s.head h).laneFree = true) (hq : (s.head h).sendQueue = b :: rest) :
    execHeadBurstSend h s
      = .next (s.updHead h (fun hd => { hd with sendQueue := rest, transmitting := some b, laneOut := b.bytes })) := by
  simp only [execHeadBurstSend, hq, hfree, if_true]

theorem execHeadBurstSend_of_not_free {s : State} {h : HeadId} (hfree : ¬ (s.head h).laneFree = true) :
    execHeadBurstSend h s = .next s := by
  unfold execHeadBurstSend
  split
  · rfl
  · exact if_neg hfree

theorem execMaintSend_of_free {s : State} {h : HeadId} {a : Access} (hfree : (s.head h).laneFree = true)
    (hq : (s.head h).sendQueue = []) (hslot : (s.head h).slot = some a) (hsent : a.sent = false) :
    execMaintSend h s
      = .next (s.updHead h (fun hd => { hd with slot := some { a with sent := true }, laneOut := a.bytes })) := by
  simp [execMaintSend, hslot, hfree, hq, hsent]

theorem execMaintSend_of_not {s : State} {h : HeadId}
    (hno : ¬ ((s.head h).laneFree = true ∧ (s.head h).sendQueue = [])) : execMaintSend h s = .next s := by
  unfold execMaintSend
  split
  · rfl
  · exact if_neg fun hyes => hno ⟨hyes.1, hyes.2.1⟩

theorem execProbeSend_of_free {s : State} {h : HeadId} (hfree : (s.head h).laneFree = true)
    (hq : (s.head h).sendQueue = []) (hslot : (s.head h).slot = none) (hhunt : (s.head h).hunting = true)
    (hwait : (s.head h).probeWaiting = true) :
    execProbeSend h s = .next (s.updHead h (fun hd =>
      { hd with probeWaiting := false, roundTripTimer := some 0, laneOut := probeBytes })) :=
  if_pos ⟨hhunt, hwait, hfree, hq, hslot⟩

theorem execProbeSend_of_not {s : State} {h : HeadId}
    (hno : ¬ ((s.head h).laneFree = true ∧ (s.head h).sendQueue = [])) : execProbeSend h s = .next s :=
  if_neg fun ⟨_, _, hfree, hq, _⟩ => hno ⟨hfree, hq⟩

theorem natBytes_three (v : Nat) : natBytes 3 v = BitVec.ofNat 8 (v / 65536) :: natBytes 2 v := by
  simp [natBytes]

/-- Settles O30: each of the three sends waits for those before it, and the units are their fields in order. -/
theorem laneArbiterSendsOneUnit : Obligations.LaneArbiterSendsOneUnit := by
  refine ⟨fun s h => ⟨fun hidle hsignal => ?_, fun hq => ?_, fun hbusy => ?_⟩, fun b => ?_, fun a => ?_⟩
  · have hfree := (s.head h).laneFree_iff.mpr ⟨hidle, hsignal⟩
    refine ⟨fun b rest hq => exists_of_updHead s h _ (execHeadBurstSend_of_free hfree hq),
      fun a hq hslot hsent => exists_of_updHead s h _ (execMaintSend_of_free hfree hq hslot hsent),
      fun hq hslot hstate hphase hwait => exists_of_updHead s h _ (execProbeSend_of_free hfree hq hslot ?_ hwait)⟩
    exact (s.head h).hunting_iff.mpr ⟨hstate, hphase⟩
  · exact ⟨execMaintSend_of_not fun hyes => hq hyes.2, execProbeSend_of_not fun hyes => hq hyes.2⟩
  · have hfree : ¬ (s.head h).laneFree = true := by
      rw [Head.laneFree_iff]
      rintro ⟨hidle, hsignal⟩
      exact hbusy.elim (· hidle) (by simp [hsignal])
    exact ⟨execHeadBurstSend_of_not_free hfree, execMaintSend_of_not fun hyes => hfree hyes.1,
      execProbeSend_of_not fun hyes => hfree hyes.1⟩
  · have hflags : ((if b.compare then 1 else 0) ||| (if b.order = .colFast then 2 else 0) : Byte)
        = (if b.compare then 1 else 0) + (if b.order = .colFast then 2 else 0) := by
      split_ifs <;> decide
    simp only [HeadBurst.bytes, natBytes_two, hflags]
  · have henables (w : Bool) (e : BitVec 4) : ((if w then 0x80 else 0) ||| e.setWidth 8 : Byte)
        = (if w then 0x80 else 0) + e.setWidth 8 := by
      revert w e
      decide
    simp only [Access.bytes, natBytes_two, natBytes_three, natBytes_four, henables, List.append_assoc]
    rfl

/-! ### The end of a transmission (R77, R81) -/

theorem startDeadline_of_none {tag : Byte} {d : Deadline} {q : List TrackEntry}
    (hq : ∀ e ∈ q, ¬ (e.tag = tag ∧ e.deadline = .waitingSend)) : startDeadline tag d q = q := by
  induction q with
  | nil => rfl
  | cons e q ih =>
    obtain ⟨he, htail⟩ := List.forall_mem_cons.mp hq
    rw [startDeadline, if_neg he, ih htail]

theorem startDeadline_of_first {tag : Byte} (d : Deadline) {pre post : List TrackEntry} {e : TrackEntry}
    (hpre : ∀ x ∈ pre, ¬ (x.tag = tag ∧ x.deadline = .waitingSend)) (he : e.tag = tag ∧ e.deadline = .waitingSend) :
    startDeadline tag d (pre ++ e :: post) = pre ++ { e with deadline := d } :: post := by
  induction pre with
  | nil => exact if_pos he
  | cons x pre ih =>
    obtain ⟨hx, htail⟩ := List.forall_mem_cons.mp hpre
    exact (if_neg hx).trans (congrArg (x :: ·) (ih htail))

/-- Settles O31: the first waiting entry with the tag takes the head's result window. -/
theorem burstTransmitEndStartsTheDeadline : Obligations.BurstTransmitEndStartsTheDeadline := by
  intro s h b hb
  dsimp only
  have hexec : ∃ f : Head → Head, execBurstTransmitEnd h s = .next (s.updHead h f) ∧ f (s.head h) = { s.head h with
      transmitting := none
      tracking := if b.compare then startDeadline b.tag (if (s.head h).laneHeld then .paused (s.head h).resultWindow
        else .running (s.head h).resultWindow) (s.head h).tracking else (s.head h).tracking } := by
    simp only [execBurstTransmitEnd, hb]
    exact ⟨_, rfl, rfl⟩
  obtain ⟨f, hf, heq⟩ := hexec
  obtain ⟨t, he, honly, hframe, hhead⟩ := exists_of_updHead s h f hf
  rw [heq] at hhead
  refine ⟨t, he, honly, hframe, by rw [hhead], fun hdrive => ?_, fun hnone => ?_,
    fun pre e post hcmp hq hpre hwaits => ?_⟩
  · simp [hhead, hdrive]
  · simp [hhead, startDeadline_of_none hnone]
  · rw [hhead]
    dsimp only
    rw [if_pos hcmp, hq, startDeadline_of_first _ hpre hwaits]
    exact ⟨fun hheld => by rw [if_pos hheld], fun hfree => by rw [hfree]; rfl⟩

/-! ### The supply line (R29) -/

theorem execSupplyGoodFall_of_good {s : State} {h : HeadId} (hgood : (s.head h).supplyGood = true) :
    execSupplyGoodFall h s = .next (s.updHead h (fun hd =>
      { hd with
        supplyGood := false
        fenceTimer := if hd.state.monitored then some hd.setup.fenceDelay else hd.fenceTimer })) := if_pos hgood

/-- Settles O35: the timer starts in the monitored states, which are all but OFFLINE and FENCED. -/
theorem supplyLineStartsAndCancelsTheFenceTimer : Obligations.SupplyLineStartsAndCancelsTheFenceTimer := by
  intro s h
  refine ⟨fun hgood => ?_, exists_of_updHead s h _ rfl⟩
  obtain ⟨t, he, honly, hframe, hhead⟩ := exists_of_updHead s h _ (execSupplyGoodFall_of_good hgood)
  refine ⟨t, he, honly, hframe, fun hmon => ?_, fun hout => ?_⟩
  · rw [hhead, if_pos ((HeadState.monitored_iff _).mpr hmon)]
    rfl
  · have hmon : ¬ (s.head h).state.monitored = true := by
      rw [HeadState.monitored_iff]
      tauto
    rw [hhead, if_neg hmon]

/-! ### The lane signal (R32) and the units of a lane (R163) -/

theorem State.settleLane_eq_self {s : State} {h : HeadId} (hheld : (s.head h).holdDue = (s.head h).laneHeld)
    (hempty : (s.head h).tracking = []) : s.settleLane h = s := by
  have hrefresh : s.updHead h Head.refreshHold = s := State.updHead_eq_self s (if_pos hheld)
  rw [State.settleLane, hrefresh, State.settleDeadlines, hempty]
  rfl

theorem Head.holdDue_of_empty {hd : Head} (hbuf : hd.laneBuffer = []) (hrec : hd.reception = none) :
    hd.holdDue = false := by
  simp [Head.holdDue, Head.bufferRecords, Head.bufferEntries, Head.receivedEntries, hbuf, hrec, Config.laneRecords,
    Config.laneEntries]

/-- Settles O37: with nothing buffered the lane stays released, and the types of units are those of the table. -/
theorem quietLaneEventsChangeThePresenceAlone : Obligations.QuietLaneEventsChangeThePresenceAlone := by
  intro s h
  refine ⟨fun hstate hsignal hbuf htrack hheld => ?_, exists_of_updHead s h _ rfl, fun _ _ => rfl,
    fun body => ⟨rfl, rfl, rfl, fun kind h1 h2 h3 => ?_⟩⟩
  · have hmon : ¬ (s.head h).state.monitored = true := by
      rw [HeadState.monitored_iff]
      tauto
    have hlost : ((s.updHead h (fun hd => { hd with laneSignal := false })).updHead h
        (fun hd => { hd with reception := none })) = s.updHead h (fun hd => { hd with laneSignal := false, reception := none }) :=
      State.updHead_updHead s h _ _
    have hsettled (f : Head → Head) (hf : f (s.head h) = { s.head h with laneSignal := false, reception := none }) :
        (s.updHead h f).settleLane h = s.updHead h f := by
      apply State.settleLane_eq_self <;> rw [State.head_updHead_self, hf]
      · exact (Head.holdDue_of_empty (hd := { s.head h with laneSignal := false, reception := none }) hbuf rfl).trans
          hheld.symm
      · exact htrack
    refine exists_of_updHead s h (fun hd => { hd with laneSignal := false, reception := none }) ?_
    change execLaneSignalLoss h s = _
    simp only [execLaneSignalLoss, if_pos hsignal, if_neg hmon]
    rw [hlost, hsettled _ rfl]
  · have hunit := (upstreamUnit_eq_none_iff kind).mpr ⟨h1, h2, h3⟩
    have hcmd : commandOfUnit h kind body = .unknownUnitDiscard h kind body := by
      simp only [commandOfUnit, hunit]
    refine ⟨hcmd, ?_, by rw [hcmd]; rfl⟩
    have hknown := mt (knownUnit_eq_true_iff kind).mp (by tauto)
    simpa [Instr.wellFormed] using hknown

end Sys2Proof.Machine
end

section
/-! Training and the maintenance proxy: the ECHO, the timers and the answers of a head (2.3, 2.10). -/

namespace Sys2Proof.Machine

/-! ### An event raised after a change of its head -/

/-- The outcome `t` of a change of head `h` after which event `e` has been raised: the head is `hd` with the event. -/
structure State.Raised (s t : State) (h : HeadId) (e : HeadEvent) (hd : Head) : Prop where
  onlyHead : s.onlyHead t h
  frame : t = { s with heads := t.heads, upstream := t.upstream }
  upstream : t.upstream = s.upstream ++ s.noticesFor h e (s.head h) (t.head h) 0
  head : t.head h = { hd with events := hd.events ||| e.bit }

theorem State.raised_updHead (s : State) (h : HeadId) (e : HeadEvent) (f : Head → Head)
    (hevents : (f (s.head h)).events = (s.head h).events) (hmask : (f (s.head h)).mask = (s.head h).mask) :
    s.Raised ((s.updHead h f).raise h e) h e (f (s.head h)) where
  onlyHead := (State.onlyHead_updHead s h f).trans (State.onlyHead_raise _ h e)
  frame := by rw [State.raise_frame]; rfl
  upstream := by
    have hbefore (after : Head) (n : Nat) : (s.updHead h f).noticesFor h e (f (s.head h)) after n
        = s.noticesFor h e (s.head h) after n := by
      change s.noticesFor h e (f (s.head h)) after n = _
      simp only [State.noticesFor, hevents, hmask]
    rw [State.upstream_raise, State.head_updHead_self, hbefore]
    rfl
  head := by rw [State.head_raise_self, State.head_updHead_self]

/-! ### The end of training (R23, R24) -/

/-- A head whose training has failed, before the event OFFLINE. -/
def Head.failed (why : Reason) (hd : Head) : Head :=
  { hd with
    state := .offline, phase := none, reason := why, fenceTimer := none, probeWaiting := false
    roundTripTimer := none, slot := none }

theorem State.failTraining_raised (s : State) (h : HeadId) (why : Reason) :
    s.Raised (s.failTraining h why) h .offline ((s.head h).failed why) :=
  s.raised_updHead h .offline (Head.failed why) rfl rfl

/-! ### The choice of a latency class (R23) -/

theorem chooseClass_eq_some_iff (table : Vector LatencyClass 8) (measured : Nat) (i : Fin 8) :
    chooseClass table measured = some i ↔ (table[i].valid = true ∧ measured ≤ table[i].maxRoundTrip)
      ∧ ∀ j < i, ¬ (table[j].valid = true ∧ measured ≤ table[j].maxRoundTrip) := by
  unfold chooseClass
  rw [allFin_eq_finRange, List.find?_eq_some_iff_getElem]
  simp only [Bool.and_eq_true, decide_eq_true_eq, List.getElem_finRange, List.length_finRange, Bool.not_eq_true',
    Bool.and_eq_false_imp, decide_eq_false_iff_not]
  refine and_congr_right fun _ => ⟨?_, fun hbefore => ⟨i.val, i.isLt, rfl, fun j hj => ?_⟩⟩
  · rintro ⟨n, hn, rfl, hbefore⟩ j hj
    exact fun hfits => hbefore j.val hj hfits.1 hfits.2
  · exact fun hvalid hle => hbefore ⟨j, hj.trans i.isLt⟩ hj ⟨hvalid, hle⟩

theorem chooseClass_eq_none_iff (table : Vector LatencyClass 8) (measured : Nat) :
    chooseClass table measured = none ↔ ∀ i : Fin 8, ¬ (table[i].valid = true ∧ measured ≤ table[i].maxRoundTrip) := by
  simp [chooseClass, List.find?_eq_none, allFin_eq_finRange]

theorem State.measure_of_fits {s : State} {h : HeadId} {measured : Nat} {i : Fin 8}
    (hi : chooseClass s.latency measured = some i) :
    s.measure h measured = s.updHead h (fun hd => hd.enterProfile measured i s.latency[i].window) := by
  simp only [State.measure, hi]

theorem State.measure_of_none {s : State} {h : HeadId} {measured : Nat} (hnone : chooseClass s.latency measured = none) :
    s.Raised (s.measure h measured) h .offline ({ s.head h with roundTrip := some measured }.failed .outOfTable) := by
  have heq : s.measure h measured
      = (s.updHead h (fun hd => { hd with roundTrip := some measured }.failed .outOfTable)).raise h .offline := by
    simp only [State.measure, hnone]
    exact congrArg (fun t => State.raise t h .offline)
      (State.updHead_updHead s h (fun hd => { hd with roundTrip := some measured }) (Head.failed .outOfTable))
  rw [heq]
  exact s.raised_updHead h .offline _ rfl rfl

/-- A measured round trip is kept, whether a class fits it or not. -/
theorem State.measure_ends {s : State} {h : HeadId} (measured : Nat) (hstate : (s.head h).state = .training) :
    s.onlyHead (s.measure h measured) h ∧ ((s.measure h measured).head h).roundTrip = some measured
      ∧ ((s.measure h measured).head h).probeWaiting = false
      ∧ (((s.measure h measured).head h).state = .training ∧ ((s.measure h measured).head h).phase = some .profile
        ∨ ((s.measure h measured).head h).state = .offline ∧ ((s.measure h measured).head h).reason = .outOfTable) := by
  cases hchoice : chooseClass s.latency measured with
  | some i =>
    rw [State.measure_of_fits hchoice, State.head_updHead_self]
    exact ⟨State.onlyHead_updHead s h _, rfl, rfl, .inl ⟨hstate, rfl⟩⟩
  | none =>
    have hraised := State.measure_of_none (h := h) hchoice
    rw [hraised.head]
    exact ⟨hraised.onlyHead, rfl, rfl, .inr ⟨rfl, rfl⟩⟩

/-! ### The ECHO (R23) -/

theorem execEcho_of_timer {s : State} {h : HeadId} {after n : Nat} (hhunt : ((s.elapse after).head h).hunting = true)
    (hsignal : ((s.elapse after).head h).laneSignal = true)
    (htimer : ((s.elapse after).head h).roundTripTimer = some n) :
    execEcho h after s = if n ≤ 16383 then .next ((s.elapse after).measure h (min (n + 1) 16383))
      else .next ((s.elapse after).failTraining h .noEcho) := by
  simp only [execEcho, hhunt, hsignal, htimer, and_self, if_true]
  rfl

theorem execEcho_of_unsent {s : State} {h : HeadId} {after : Nat} (hhunt : ((s.elapse after).head h).hunting = true)
    (hsignal : ((s.elapse after).head h).laneSignal = true)
    (htimer : ((s.elapse after).head h).roundTripTimer = none) :
    execEcho h after s = .next ({ s.elapse after with freeCount := s.freeCount + 1 }.measure h
      (1 + Config.freeRoundTrip s.freeCount % 16383)) := by
  simp only [execEcho, hhunt, hsignal, htimer, and_self, if_true]
  rfl

theorem execEcho_of_not_hunting {s : State} {h : HeadId} {after : Nat}
    (hhunt : ¬ ((s.elapse after).head h).hunting = true) : execEcho h after s = .next (s.elapse after) :=
  if_neg fun hyes => hhunt hyes.1

/-- Settles O32: by the moment of the echo, and then by the first class that fits. -/
theorem echoChoosesALatencyClass : Obligations.EchoChoosesALatencyClass := by
  intro s h after n
  dsimp only
  refine ⟨fun hstate hphase hsignal htimer hn => ⟨fun i hfits hfirst => ?_, fun hno => ?_⟩,
    fun hstate hphase hsignal htimer hn => ?_, fun hstate hphase hsignal htimer => ?_, fun hno => ?_⟩
  · have hexec := execEcho_of_timer ((Head.hunting_iff _).mpr ⟨hstate, hphase⟩) hsignal htimer
    rw [if_pos hn, State.measure_of_fits (s := s.elapse after)
      ((chooseClass_eq_some_iff s.latency _ i).mpr ⟨hfits, hfirst⟩)] at hexec
    exact exists_of_updHead _ h _ hexec
  · have hexec := execEcho_of_timer ((Head.hunting_iff _).mpr ⟨hstate, hphase⟩) hsignal htimer
    rw [if_pos hn] at hexec
    have hraised := State.measure_of_none (s := s.elapse after) (h := h) ((chooseClass_eq_none_iff s.latency _).mpr hno)
    exact ⟨_, hexec, hraised.onlyHead, hraised.frame, hraised.upstream, hraised.head⟩
  · have hexec := execEcho_of_timer ((Head.hunting_iff _).mpr ⟨hstate, hphase⟩) hsignal htimer
    rw [if_neg (by omega)] at hexec
    have hraised := (s.elapse after).failTraining_raised h .noEcho
    exact ⟨_, hexec, hraised.onlyHead, hraised.frame, hraised.upstream, hraised.head⟩
  · have hexec := execEcho_of_unsent ((Head.hunting_iff _).mpr ⟨hstate, hphase⟩) hsignal htimer
    obtain ⟨honly, hround, hprobe, hend⟩ := State.measure_ends (s := { s.elapse after with freeCount := s.freeCount + 1 })
      (1 + Config.freeRoundTrip s.freeCount % 16383) hstate
    exact ⟨_, _, hexec, honly, by omega, by omega, hround, hprobe, hend⟩
  · refine execEcho_of_not_hunting ?_
    rw [Head.hunting_iff]
    tauto

/-! ### The end of an access (R38, R39) -/

/-- A wanted access is replied to in place of its reservation. -/
theorem State.endAccess_of_wanted {s : State} {h : HeadId} {a : Access} {id code : Byte} (st : Status) (body : ReplyBody)
    (hslot : (s.head h).slot = some a) (horigin : a.origin = .mainframe id code) (hwanted : a.replyWanted = true)
    (hres : h ∈ s.reservations) (hlink : s.link = .inSync) :
    s.endAccess h st body = { s with
      heads := (s.endAccess h st body).heads, upstream := s.upstream ++ [.reply ⟨id, code, st, body⟩]
      reservations := s.reservations.erase h } := by
  have hdeferred (u : State) (hures : h ∈ u.reservations) (hulink : u.link = .inSync) : u.deferredReply h a st body
      = { u with upstream := u.upstream ++ [.reply ⟨id, code, st, body⟩], reservations := u.reservations.erase h } := by
    simp only [State.deferredReply, horigin, hwanted, hures, hulink, and_self, if_true]
  have heq : s.endAccess h st body = { s.updHead h (fun hd => { hd with slot := none }) with
      upstream := s.upstream ++ [.reply ⟨id, code, st, body⟩], reservations := s.reservations.erase h } := by
    simp only [State.endAccess, hslot]
    exact hdeferred _ hres hlink
  rw [heq]
  rfl

/-- An access without a wanted reply only leaves the slot. -/
theorem State.endAccess_of_unwanted {s : State} {h : HeadId} {a : Access} (st : Status) (body : ReplyBody)
    (hslot : (s.head h).slot = some a) (hwanted : a.replyWanted = false) :
    s.endAccess h st body = s.updHead h (fun hd => { hd with slot := none }) := by
  have hdeferred (u : State) : u.deferredReply h a st body = u := by
    unfold State.deferredReply
    split
    · rfl
    · rw [hwanted]
      exact if_neg fun hyes => Bool.false_ne_true hyes.1
  simp only [State.endAccess, hslot]
  exact hdeferred _

/-! ### The timers -/

theorem execRoundTripTimeout_of_hunting {s : State} {h : HeadId} {n : Nat} (hhunt : (s.head h).hunting = true)
    (htimer : (s.head h).roundTripTimer = some n) :
    execRoundTripTimeout h s = .next ((s.elapse (16383 - n)).failTraining h .noEcho) := by
  simp only [execRoundTripTimeout, htimer, hhunt, if_true]
  rfl

theorem execProxyTimeout_of_profileRead {s : State} {h : HeadId} {a : Access} (hslot : (s.head h).slot = some a)
    (horigin : a.origin = .profileRead) :
    execProxyTimeout h s = .next ((s.elapse a.timer).failTraining h .profileTimeout) := by
  simp only [execProxyTimeout, hslot, horigin, if_true]

theorem execProxyTimeout_of_mainframe {s : State} {h : HeadId} {a : Access} {id code : Byte}
    (hslot : (s.head h).slot = some a) (horigin : a.origin = .mainframe id code) :
    execProxyTimeout h s = .next ((s.elapse a.timer).endAccess h .timeout .empty) := by
  simp [execProxyTimeout, hslot, horigin]

/-- Settles O33: the expired timer ends training, or the access. -/
theorem timersEndTrainingAndAccesses : Obligations.TimersEndTrainingAndAccesses := by
  intro s h
  refine ⟨fun n hstate hphase htimer => ?_, fun a ha => ?_⟩
  · have hraised := (s.elapse (16383 - n)).failTraining_raised h .noEcho
    exact ⟨_, execRoundTripTimeout_of_hunting ((Head.hunting_iff _).mpr ⟨hstate, hphase⟩) htimer, hraised.onlyHead,
      hraised.frame, hraised.upstream, hraised.head⟩
  · have hslot : ((s.elapse a.timer).head h).slot = some { a with timer := a.timer - a.timer } := by
      rw [State.head_elapse, Head.slot_elapse, ha]
      rfl
    cases horigin : a.origin with
    | profileRead =>
      have hraised := (s.elapse a.timer).failTraining_raised h .profileTimeout
      exact ⟨_, execProxyTimeout_of_profileRead ha horigin,
        fun _ => ⟨hraised.onlyHead, hraised.frame, hraised.upstream, hraised.head⟩, nofun⟩
    | mainframe id code =>
      refine ⟨_, execProxyTimeout_of_mainframe ha horigin, nofun, ?_⟩
      rintro _ _ ⟨⟩
      refine ⟨State.onlyHead_endAccess _ h _ _, State.head_endAccess_self _ h _ _, fun hwanted hres hlink => ?_,
        fun hwanted => ?_⟩
      · exact State.endAccess_of_wanted .timeout .empty hslot horigin hwanted hres hlink
      · rw [State.endAccess_of_unwanted .timeout .empty hslot hwanted]
        rfl

/-! ### MAINT_ANSWER (R24, R38) -/

/-- Missing bytes read as 0. -/
theorem byteAt_append_zeros (body : List Byte) (n i : Nat) : byteAt (body ++ List.replicate n 0) i = byteAt body i := by
  unfold byteAt
  rcases Nat.lt_or_ge i body.length with hlt | hge
  · rw [List.getD_append _ _ _ _ hlt]
  · rw [List.getD_append_right _ _ _ _ hge, List.getD_eq_default _ _ hge, List.getD_eq_getElem?_getD,
      List.getElem?_replicate]
    split_ifs <;> rfl

theorem execMaintAnswer_congr (s : State) (h : HeadId) {body body' : List Byte} (hbytes : ∀ i, byteAt body' i = byteAt body i) :
    execMaintAnswer h body' s = execMaintAnswer h body s := by
  have hok : answerOk body' = answerOk body := by simp only [answerOk, hbytes]
  have hdata : answerData body' = answerData body := by simp only [answerData, wordAt, hbytes]
  simp only [execMaintAnswer, State.profileAnswer, hok, hdata]

theorem execMaintAnswer_of_not_sent {s : State} {h : HeadId} (body : List Byte)
    (hsent : ∀ a, (s.head h).slot = some a → a.sent = false) : execMaintAnswer h body s = .next s := by
  unfold execMaintAnswer
  split
  · rfl
  · rename_i a ha
    simp [hsent a ha]

theorem execMaintAnswer_of_profileRead {s : State} {h : HeadId} {a : Access} (body : List Byte)
    (hslot : (s.head h).slot = some a) (hsent : a.sent = true) (hsignal : (s.head h).laneSignal = true)
    (horigin : a.origin = .profileRead) : execMaintAnswer h body s = .next (s.profileAnswer h body) := by
  simp only [execMaintAnswer, hslot, hsent, hsignal, horigin, and_self, if_true]

theorem execMaintAnswer_of_mainframe {s : State} {h : HeadId} {a : Access} {id code : Byte} (body : List Byte)
    (hslot : (s.head h).slot = some a) (hsent : a.sent = true) (hsignal : (s.head h).laneSignal = true)
    (horigin : a.origin = .mainframe id code) : execMaintAnswer h body s
      = .next (s.endAccess h (if answerOk body then .done else .headRefused) (.answer (answerData body))) := by
  simp [execMaintAnswer, hslot, hsent, hsignal, horigin]

/-- What an answer of five bytes or more says (R164). -/
theorem answer_cons (ok d3 d2 d1 d0 : Byte) (more : List Byte) :
    answerOk (ok :: d3 :: d2 :: d1 :: d0 :: more) = (ok == 0)
      ∧ answerData (ok :: d3 :: d2 :: d1 :: d0 :: more) = d3 ++ d2 ++ d1 ++ d0 := by
  have hassoc : ((d3 ++ d2) ++ (d1 ++ d0) : BitVec (8 + 8 + (8 + 8))).toNat
      = (d3 ++ d2 ++ d1 ++ d0 : BitVec (8 + 8 + 8 + 8)).toNat := by
    simp only [BitVec.toNat_append, Nat.shiftLeft_or_distrib, ← Nat.shiftLeft_add, Nat.or_assoc]
  exact ⟨rfl, BitVec.eq_of_toNat_eq hassoc⟩

theorem Profile.read_eq (d3 d2 d1 d0 : Byte) : Profile.read (d3 ++ d2 ++ d1 ++ d0)
    = if (1 ≤ d0.toNat ∧ d0.toNat ≤ 16) ∧ 1 ≤ d1.toNat ∧ d1.toNat ≤ 16 then some ⟨d0.toNat, d1.toNat, d3 ++ d2⟩
      else none := by
  have h0 : (d3 ++ d2 ++ d1 ++ d0).extractLsb' 0 8 = d0 := by
    refine BitVec.eq_of_getLsbD_eq fun i hi => ?_
    rw [BitVec.getLsbD_extractLsb']
    simp only [BitVec.getLsbD_append, hi]
    simp [hi]
  have h1 : (d3 ++ d2 ++ d1 ++ d0).extractLsb' 8 8 = d1 := by
    refine BitVec.eq_of_getLsbD_eq fun i hi => ?_
    rw [BitVec.getLsbD_extractLsb']
    simp only [BitVec.getLsbD_append, hi]
    simp [hi]
  have h2 : (d3 ++ d2 ++ d1 ++ d0).extractLsb' 16 16 = d3 ++ d2 := by
    refine BitVec.eq_of_getLsbD_eq fun i hi => ?_
    rw [BitVec.getLsbD_extractLsb']
    simp only [BitVec.getLsbD_append, hi, show ¬ 16 + i < 8 by omega, show ¬ 16 + i - 8 < 8 by omega,
      show 16 + i - 8 - 8 = i by omega]
    simp
  simp only [Profile.read]
  rw [h0, h1, h2]
  simp only [and_assoc]

theorem State.profileAnswer_accepted (s : State) (h : HeadId) {body : List Byte} {p : Profile}
    (hok : answerOk body = true) (hread : Profile.read (answerData body) = some p) :
    s.Raised (s.profileAnswer h body) h .trained ((s.head h).acceptProfile p) := by
  simp only [State.profileAnswer, hok, if_true, hread]
  exact s.raised_updHead h .trained (fun hd => hd.acceptProfile p) rfl rfl

theorem State.profileAnswer_refused (s : State) (h : HeadId) {body : List Byte}
    (hbad : answerOk body = true → Profile.read (answerData body) = none) :
    s.Raised (s.profileAnswer h body) h .offline ((s.head h).failed .badProfile) := by
  have hnone : (if answerOk body then Profile.read (answerData body) else none) = none := by
    split_ifs with hok
    exacts [hbad hok, rfl]
  simp only [State.profileAnswer, hnone]
  exact s.failTraining_raised h .badProfile

/-- Settles O34: an answer that was asked for ends the profile read or the access. -/
theorem maintAnswerEndsTheAccess : Obligations.MaintAnswerEndsTheAccess := by
  intro s h
  refine ⟨fun body => (execMaintAnswer_congr s h (byteAt_append_zeros body 5)).symm,
    fun body hsent => execMaintAnswer_of_not_sent body hsent,
    fun a ok d3 d2 d1 d0 more ha hsent hsignal => ?_⟩
  obtain ⟨hok, hdata⟩ := answer_cons ok d3 d2 d1 d0 more
  cases horigin : a.origin with
  | profileRead =>
    refine ⟨_, execMaintAnswer_of_profileRead _ ha hsent hsignal horigin, ?_⟩
    by_cases hgood : ok = 0 ∧ (1 ≤ d0.toNat ∧ d0.toNat ≤ 16) ∧ 1 ≤ d1.toNat ∧ d1.toNat ≤ 16
    · have hraised := s.profileAnswer_accepted h (body := ok :: d3 :: d2 :: d1 :: d0 :: more)
        (p := ⟨d0.toNat, d1.toNat, d3 ++ d2⟩) (by rw [hok, hgood.1]; rfl) (by rw [hdata, Profile.read_eq, if_pos hgood.2])
      exact ⟨hraised.onlyHead, fun _ => ⟨hraised.frame, fun _ => ⟨hraised.upstream, hraised.head⟩,
        fun hbad => absurd hgood hbad⟩, nofun⟩
    · have hraised := s.profileAnswer_refused h (body := ok :: d3 :: d2 :: d1 :: d0 :: more) (by
        rw [hok, hdata, Profile.read_eq, beq_iff_eq]
        exact fun hzero => if_neg fun hcounts => hgood ⟨hzero, hcounts⟩)
      exact ⟨hraised.onlyHead, fun _ => ⟨hraised.frame, fun hyes => absurd hyes hgood,
        fun _ => ⟨hraised.upstream, hraised.head⟩⟩, nofun⟩
  | mainframe id code =>
    have hexec := execMaintAnswer_of_mainframe (ok :: d3 :: d2 :: d1 :: d0 :: more) ha hsent hsignal horigin
    rw [hok, hdata] at hexec
    refine ⟨_, hexec, State.onlyHead_endAccess _ h _ _, nofun, ?_⟩
    rintro _ _ ⟨⟩
    refine ⟨State.head_endAccess_self _ h _ _, fun hwanted hres hlink => ?_, fun hwanted => ?_⟩
    · rw [State.endAccess_of_wanted _ _ ha horigin hwanted hres hlink]
      simp
    · rw [State.endAccess_of_unwanted _ _ ha hwanted]
      rfl

end Sys2Proof.Machine
end

section
/-! The closing actions of a head: fence, lane loss, HEAD_START without the lane signal, HEAD_RESET and DEVICE_RESET
(1.7, 2.3, 2.6 to 2.8). -/

namespace Sys2Proof.Machine

/-! ### The loss marking of the closing actions (R31, R58) -/

/-- A site that a loss still concerns: enabled and not final. -/
def Head.Live (hd : Head) (i : SiteId) : Prop := (hd.site i).enabled = true ∧ (hd.site i).verdict.isFinal = false

/-- A site that is UNREPAIRABLE in the verdict order. -/
def Head.Rejected (hd : Head) (i : SiteId) : Prop := (∃ b, (hd.block i b).state = .unrepairable)
  ∨ (hd.site i).unmapped = true ∨ (hd.site i).stopReason = .failLimit ∨ (hd.site i).stopReason = .reject

theorem Head.liveTest_iff (hd : Head) (i : SiteId) :
    ((hd.site i).enabled && !(hd.site i).verdict.isFinal) = true ↔ hd.Live i := by
  simp [Head.Live]

theorem LossCause.or_bit_ne_zero (x : BitVec 10) (c : LossCause) : x ||| c.bit ≠ 0 := by
  intro hzero
  obtain ⟨-, hbit⟩ := BitVec.or_eq_zero_iff.mp hzero
  cases c <;> exact absurd hbit (by decide)

theorem Block.close_eq (b : Block) : b.close
    = if b.state = .collecting ∨ b.state = .queued then { b with state := .stopped } else b := rfl

theorem Block.state_close_unrepairable (b : Block) : b.close.state = .unrepairable ↔ b.state = .unrepairable := by
  rw [Block.close_eq]
  split_ifs with h
  · rcases h with h | h <;> simp [h]
  · rfl

/-- The test of `Head.Live`, as the closing actions make it. -/
def Head.liveTest (hd : Head) (i : SiteId) : Bool := (hd.site i).enabled && !(hd.site i).verdict.isFinal

/-- The head after the loss marking, before the verdicts are fixed. -/
def Head.lossMarked (hd : Head) (c : LossCause) : Head :=
  Head.lose c (siteSet hd.liveTest) (hd.mapBlocks (fun i _ b => if hd.liveTest i then b.close else b))

theorem Head.closeSites_eq (hd : Head) (c : LossCause) : hd.closeSites c = (hd.lossMarked c).finalise hd.liveTest := rfl

theorem Head.site_lossMarked (hd : Head) (c : LossCause) (i : SiteId) : (hd.lossMarked c).site i
    = if hd.liveTest i then { hd.site i with causes := (hd.site i).causes ||| c.bit } else hd.site i := by
  rw [Head.lossMarked, Head.site_lose, siteSet_getLsbD, Head.site_mapBlocks]
  by_cases htest : hd.liveTest i = true
  · rw [if_pos htest, if_pos ⟨htest, (hd.liveTest_iff i).mp htest⟩]
  · rw [if_neg htest, if_neg fun h => htest h.1]

theorem Head.block_lossMarked (hd : Head) (c : LossCause) (i : SiteId) (b : BlockId) :
    (hd.lossMarked c).block i b = if hd.liveTest i then (hd.block i b).close else hd.block i b := by
  rw [Head.lossMarked, Head.block_lose, Head.block_mapBlocks]

theorem Head.site_closeSites_of_not_live {hd : Head} {i : SiteId} (c : LossCause) (hlive : ¬ hd.Live i) :
    (hd.closeSites c).site i = hd.site i := by
  have htest : ¬ hd.liveTest i = true := mt (hd.liveTest_iff i).mp hlive
  rw [Head.closeSites_eq, Head.site_finalise, if_neg (fun h => htest h.1), Head.site_lossMarked, if_neg htest]

theorem Head.site_closeSites_of_live {hd : Head} {i : SiteId} (c : LossCause) (hlive : hd.Live i) :
    (hd.closeSites c).site i = { hd.site i with
      causes := (hd.site i).causes ||| c.bit, verdict := ((hd.closeSites c).site i).verdict }
    ∧ (hd.Rejected i → ((hd.closeSites c).site i).verdict = .unrepairable)
    ∧ (¬ hd.Rejected i → ((hd.closeSites c).site i).verdict = .incomplete) := by
  have htest : hd.liveTest i = true := (hd.liveTest_iff i).mpr hlive
  have hsite : (hd.lossMarked c).site i = { hd.site i with causes := (hd.site i).causes ||| c.bit } := by
    rw [Head.site_lossMarked, if_pos htest]
  have hfinal : (hd.closeSites c).site i = { hd.site i with
      causes := (hd.site i).causes ||| c.bit
      verdict := verdictOf ((hd.lossMarked c).site i) (hd.lossMarked c).blocks[i] } := by
    rw [Head.closeSites_eq, Head.site_finalise, if_pos ⟨htest, by rw [hsite]; exact hlive.2⟩, hsite]
  have hverdict := Head.verdictOf_of_enabled (hd.lossMarked c) i (by rw [hsite]; exact hlive.1)
  simp only [Head.block_lossMarked, htest, if_true, Block.state_close_unrepairable, hsite] at hverdict
  rw [hsite] at hfinal
  rw [hfinal]
  refine ⟨rfl, fun hrejected => hverdict.trans (if_pos hrejected), fun hnot => ?_⟩
  exact (hverdict.trans (if_neg hnot)).trans (if_pos (.inl (LossCause.or_bit_ne_zero _ c)))

theorem Head.block_closeSites_of_not_live {hd : Head} {i : SiteId} (c : LossCause) (hlive : ¬ hd.Live i) (b : BlockId) :
    (hd.closeSites c).block i b = hd.block i b :=
  (hd.block_closeSites c i b).trans (if_neg (mt (hd.liveTest_iff i).mp hlive))

theorem Head.block_closeSites_of_live {hd : Head} {i : SiteId} (c : LossCause) (hlive : hd.Live i) (b : BlockId) :
    (hd.closeSites c).block i b = (hd.block i b).close :=
  (hd.block_closeSites c i b).trans (if_pos ((hd.liveTest_iff i).mpr hlive))

/-! ### A closing and the event after it (R13, R31) -/

/-- The head that the loss marking finds: everything under way on it has been given up. -/
def Head.cleared (hd : Head) : Head := hd.closed none

/-- A closing leaves the number of slots in use as it is, so that it changes no admission of a notice. -/
theorem State.noticesFor_close (s : State) (h : HeadId) (loss : Option LossCause) (k : HeadId) (e : HeadEvent)
    (before after : Head) (n : Nat) :
    (s.close h loss).noticesFor k e before after n = s.noticesFor k e before after n := by
  obtain ⟨hup, hres⟩ := s.close_upstream h loss
  have hlink : (s.close h loss).link = s.link := by rw [State.close_frame]
  have hexec : (s.close h loss).executing = s.executing := by rw [State.close_frame]
  have hslots : (s.close h loss).upstream.length + (s.close h loss).reservations.length
      = s.upstream.length + s.reservations.length := by
    rw [hup, hres]
    by_cases ha : s.abortedFor h = []
    · simp [ha]
    · obtain ⟨hmem, -, hlen⟩ := State.mem_of_abortedFor ha
      have hpos := List.length_pos_of_mem hmem
      rw [if_neg ha, List.length_append, hlen, List.length_erase_of_mem hmem]
      omega
  simp only [State.noticesFor, hlink, hexec, hslots]

/-- The outcome `t` of the closing of head `h` with event `e` raised after it: the head is `hd` with the event, and the
notice is made as if the head had been `before`. -/
structure State.Closed (s t : State) (h : HeadId) (e : HeadEvent) (before hd : Head) : Prop where
  onlyHead : s.onlyHead t h
  frame : t = { s with
    heads := t.heads, upstream := t.upstream
    reservations := if s.abortedFor h = [] then s.reservations else s.reservations.erase h
    analysis := s.analysis.filter (fun it => it.head != h)
    solveList := s.solveList.filter (fun j => j.head != h), engine := s.engine.overtake h }
  upstream : t.upstream = s.upstream ++ s.abortedFor h ++ s.noticesFor h e before (t.head h) 0
  head : t.head h = { hd with events := hd.events ||| e.bit }

theorem State.closed_raise (s : State) (h : HeadId) (loss : Option LossCause) (e : HeadEvent) (f : Head → Head)
    (before : Head) (hevents : (f ((s.head h).closed loss)).events = before.events)
    (hmask : (f ((s.head h).closed loss)).mask = before.mask) :
    s.Closed (((s.close h loss).updHead h f).raise h e) h e before (f ((s.head h).closed loss)) where
  onlyHead := ((s.onlyHead_close h loss).trans (State.onlyHead_updHead _ h f)).trans (State.onlyHead_raise _ h e)
  frame := by
    rw [State.raise_frame, ← (s.close_upstream h loss).2]
    simp only [State.updHead]
    rw [State.close_frame]
  upstream := by
    have hnotice (after : Head) : ((s.close h loss).updHead h f).noticesFor h e (f ((s.head h).closed loss)) after 0
        = s.noticesFor h e before after 0 := by
      refine Eq.trans ?_ (s.noticesFor_close h loss h e before after 0)
      change (s.close h loss).noticesFor h e (f ((s.head h).closed loss)) after 0 = _
      simp only [State.noticesFor, hevents, hmask]
    rw [State.upstream_raise, State.head_updHead_self, State.head_close_self, hnotice, State.updHead_upstream,
      (s.close_upstream h loss).1]
  head := by rw [State.head_raise_self, State.head_updHead_self, State.head_close_self]

end Sys2Proof.Machine
end

section
/-! The commands that close a head: FENCE_TIMER_EXPIRY, LANE_SIGNAL_LOSS, HEAD_START without the lane signal, HEAD_RESET
and DEVICE_RESET (1.7, 2.3, 2.6 to 2.8). -/

namespace Sys2Proof.Machine

/-! ### The ABORTED reply (R12, R31) -/

theorem State.abortedFor_of_wanted {s : State} {h : HeadId} {a : Access} {id code : Byte}
    (hslot : (s.head h).slot = some a) (horigin : a.origin = .mainframe id code) (hwanted : a.replyWanted = true)
    (hres : h ∈ s.reservations) (hlink : s.link = .inSync) :
    s.abortedFor h = [.reply ⟨id, code, .aborted, .empty⟩] := by
  simp only [State.abortedFor, hslot, horigin, hwanted, hres, hlink, and_self, if_true]

theorem State.abortedFor_of_unwanted {s : State} {h : HeadId}
    (hno : ∀ a, (s.head h).slot = some a → a.origin = .profileRead ∨ a.replyWanted = false) : s.abortedFor h = [] := by
  unfold State.abortedFor
  split
  · rfl
  · rename_i a ha
    split
    · rfl
    · rename_i id code horigin
      rcases hno a ha with hread | hwanted
      · rw [hread] at horigin
        cases horigin
      · rw [hwanted]
        exact if_neg fun hyes => Bool.false_ne_true hyes.1

/-! ### A head that is lost (R31, R32) -/

/-- The head after a closing with loss marking. -/
def Head.lostTo (hd : Head) (c : LossCause) (x : HeadState) (why : Reason) (e : HeadEvent) (r : Option Reception)
    (signal : Bool) : Head :=
  { hd with
    state := x, phase := none, reason := why, generation := hd.generation + 1, events := hd.events ||| e.bit
    laneSignal := signal, tracking := [], sendQueue := [], laneBuffer := [], reception := r, laneHeld := false
    fenceTimer := none, probeWaiting := false, roundTripTimer := none, slot := none
    sites := (hd.cleared.closeSites c).sites, blocks := (hd.cleared.closeSites c).blocks }

theorem Head.events_closed (hd : Head) (loss : Option LossCause) : (hd.closed loss).events = hd.events := by
  cases loss <;> rfl

theorem Head.mask_closed (hd : Head) (loss : Option LossCause) : (hd.closed loss).mask = hd.mask := by
  cases loss <;> rfl

/-- What a fence makes of the head that its closing leaves (R30). -/
def Head.toFenced (hd : Head) : Head := { hd with state := .fenced, reason := .supply, phase := none }

/-- What a lane loss makes of the head that its closing leaves (R32). -/
def Head.toLost (hd : Head) : Head :=
  { hd with state := .offline, phase := none, reason := .laneLost, reception := none }

/-- The head without its lane signal. -/
def Head.dark (hd : Head) : Head := { hd with laneSignal := false }

/-- Of a closing with loss marking only the sites and the blocks depend on the loss cause. -/
theorem Head.closed_some_frame (hd : Head) (c : LossCause) : hd.closed (some c) = { hd with
    generation := hd.generation + 1, tracking := [], sendQueue := [], laneBuffer := []
    reception := hd.reception.map (fun _ => Reception.discarding), laneHeld := false, fenceTimer := none
    probeWaiting := false, roundTripTimer := none, slot := none
    sites := (hd.cleared.closeSites c).sites, blocks := (hd.cleared.closeSites c).blocks } := rfl

theorem Head.fenced_eq (hd : Head) (e : HeadEvent) :
    { (hd.closed (some .fence)).toFenced with events := (hd.closed (some .fence)).toFenced.events ||| e.bit }
      = hd.lostTo .fence .fenced .supply e (hd.reception.map (fun _ => Reception.discarding)) hd.laneSignal := by
  rw [Head.closed_some_frame]; rfl

theorem Head.lost_eq (hd : Head) (e : HeadEvent) :
    { (hd.closed (some .laneLost)).toLost with events := (hd.closed (some .laneLost)).toLost.events ||| e.bit }
      = hd.lostTo .laneLost .offline .laneLost e none hd.laneSignal := by
  rw [Head.closed_some_frame]; rfl

theorem State.fence_closed (s : State) (h : HeadId) :
    s.Closed (s.fence h) h .fenced (s.head h) (((s.head h).closed (some .fence)).toFenced) :=
  s.closed_raise h (some .fence) .fenced Head.toFenced (s.head h) (Head.events_closed _ _) (Head.mask_closed _ _)

theorem State.head_fence (s : State) (h : HeadId) : (s.fence h).head h = (s.head h).lostTo .fence .fenced .supply .fenced
    ((s.head h).reception.map (fun _ => Reception.discarding)) (s.head h).laneSignal :=
  (s.fence_closed h).head.trans (Head.fenced_eq _ _)

theorem Head.site_lostTo_of_not_live {hd : Head} {i : SiteId} (c : LossCause) (x : HeadState) (why : Reason)
    (e : HeadEvent) (r : Option Reception) (signal : Bool) (hlive : ¬ hd.Live i) :
    (hd.lostTo c x why e r signal).site i = hd.site i
      ∧ ∀ b, (hd.lostTo c x why e r signal).block i b = hd.block i b :=
  ⟨Head.site_closeSites_of_not_live (hd := hd.cleared) c hlive,
    Head.block_closeSites_of_not_live (hd := hd.cleared) c hlive⟩

theorem Head.site_lostTo_of_live {hd : Head} {i : SiteId} (c : LossCause) (x : HeadState) (why : Reason)
    (e : HeadEvent) (r : Option Reception) (signal : Bool) (hlive : hd.Live i) :
    (hd.lostTo c x why e r signal).site i = { hd.site i with
        causes := (hd.site i).causes ||| c.bit, verdict := ((hd.lostTo c x why e r signal).site i).verdict }
      ∧ (hd.Rejected i → ((hd.lostTo c x why e r signal).site i).verdict = .unrepairable)
      ∧ (¬ hd.Rejected i → ((hd.lostTo c x why e r signal).site i).verdict = .incomplete)
      ∧ ∀ b, (hd.lostTo c x why e r signal).block i b = (hd.block i b).close := by
  obtain ⟨hsite, hrejected, hincomplete⟩ := Head.site_closeSites_of_live (hd := hd.cleared) c hlive
  exact ⟨hsite, hrejected, hincomplete, Head.block_closeSites_of_live (hd := hd.cleared) c hlive⟩

/-- A closing after a change of its head that leaves the slot. -/
theorem State.Closed.of_updHead {s t : State} {h : HeadId} {e : HeadEvent} {before hd : Head} {k : Head → Head}
    (hslot : (k (s.head h)).slot = (s.head h).slot) (hc : (s.updHead h k).Closed t h e before hd) :
    s.Closed t h e before hd := by
  obtain ⟨honly, hframe, hup, hhead⟩ := hc
  have habort : (s.updHead h k).abortedFor h = s.abortedFor h :=
    State.abortedFor_congr (by rw [State.head_updHead_self, hslot]) rfl rfl
  rw [habort] at hframe hup
  exact ⟨(State.onlyHead_updHead s h k).trans honly, hframe, hup, hhead⟩

/-- A lane loss after a change of its head that leaves the slot, the events and the mask. -/
theorem State.laneLoss_updHead_closed (s : State) (h : HeadId) {k : Head → Head}
    (hslot : (k (s.head h)).slot = (s.head h).slot) (hevents : (k (s.head h)).events = (s.head h).events)
    (hmask : (k (s.head h)).mask = (s.head h).mask) :
    s.Closed ((s.updHead h k).laneLoss h) h .offline (s.head h) ((k (s.head h)).closed (some .laneLost)).toLost := by
  have hk : (s.updHead h k).head h = k (s.head h) := State.head_updHead_self s h k
  have hclose := (s.updHead h k).closed_raise h (some .laneLost) .offline Head.toLost (s.head h)
    (by rw [hk]; exact (Head.events_closed _ _).trans hevents) (by rw [hk]; exact (Head.mask_closed _ _).trans hmask)
  rw [hk] at hclose
  exact hclose.of_updHead hslot

/-- Settles O36: both commands are a closing with loss marking, of which the loss marking changes the sites that are
enabled and not final. -/
theorem fenceAndLaneLossCloseTheHead : Obligations.FenceAndLaneLossCloseTheHead := by
  intro s h hoffline hfenced closed
  have hmon : (s.head h).state.monitored = true := (HeadState.monitored_iff _).mpr ⟨hoffline, hfenced⟩
  have key (u t : State) (c : LossCause) (x : HeadState) (why : Reason) (e : HeadEvent) (r : Option Reception)
      (signal : Bool) {hd : Head} (hclose : u.Closed t h e (u.head h) hd)
      (hhead : t.head h = (u.head h).lostTo c x why e r signal) : closed u (u.head h) c e t := by
    obtain ⟨honly, hframe, hup, -⟩ := hclose
    refine ⟨honly, ?_, ⟨u.abortedFor h, hup, fun a id code hslot horigin hwanted hres hlink => ?_, fun hno => ?_⟩, ?_⟩
    · rw [hframe]
    · rw [hframe, State.abortedFor_of_wanted hslot horigin hwanted hres hlink]
      exact ⟨rfl, rfl⟩
    · rw [hframe, State.abortedFor_of_unwanted hno]
      exact ⟨rfl, rfl⟩
    · rw [hhead]
      refine ⟨rfl, rfl, rfl, rfl, rfl, rfl, rfl, rfl, rfl, rfl, rfl, rfl, rfl, rfl, rfl, rfl, rfl, rfl, rfl, rfl, rfl, rfl,
        rfl, rfl, rfl, rfl, rfl, rfl, rfl, fun i => ⟨fun hlive => ?_, fun hlive => ?_⟩⟩
      · exact Head.site_lostTo_of_not_live c x why e r signal hlive
      · exact Head.site_lostTo_of_live c x why e r signal hlive
  refine ⟨fun n hn => ?_, fun hsignal => ?_⟩
  · have hclose := (s.elapse n).fence_closed h
    have hhead := (s.elapse n).head_fence h
    have hexec : execFenceTimerExpiry h s = .next ((s.elapse n).fence h) := by
      simp only [execFenceTimerExpiry, hn, hmon, if_true]
    refine ⟨_, hexec, key (s.elapse n) _ .fence .fenced .supply .fenced _ _ hclose hhead, ?_⟩
    rw [hhead, State.head_elapse]
    exact ⟨rfl, rfl, rfl, rfl⟩
  · have hclose := s.laneLoss_updHead_closed h (k := Head.dark) rfl rfl rfl
    have hhead := hclose.head.trans (Head.lost_eq _ _)
    have hexec : execLaneSignalLoss h s = .next ((s.updHead h Head.dark).laneLoss h) := by
      simp only [execLaneSignalLoss, hsignal, hmon, if_true]
      rfl
    refine ⟨_, hexec, key s _ .laneLost .offline .laneLost .offline none false hclose hhead, ?_⟩
    rw [hhead]
    exact ⟨rfl, rfl, rfl, rfl, rfl⟩

/-! ### HEAD_START (R22) -/

theorem Head.site_start (hd : Head) (i : SiteId) : hd.start.site i = { hd.site i with present := false } := by
  simp [Head.start, Head.site, Head.mapSites]

theorem Head.start_eq (hd : Head) : hd.start = { hd with
    state := .training, phase := some .hunt, reason := .none, classIndex := none, roundTrip := none
    profile := none, resultWindow := 0, probeWaiting := true, roundTripTimer := none
    fenceTimer := if hd.supplyGood then none else some (128 * 2 ^ hd.setup.fenceCode.val)
    sites := tabulate (fun i => { hd.site i with present := false }) } := rfl

/-- The reply that ends a request leaves the rest of the outcome. -/
theorem State.answered_eq {s u : State} {r : Request} {rest : List Request} (st : Status) (body : ReplyBody)
    (hr : s.ready r rest) (hu : u = { s.take r rest with heads := u.heads }) :
    u.reply st body = { s.answered r rest st body with heads := u.heads } := by
  have hexec : u.executing = some r := by rw [hu]; rfl
  rw [State.reply_of_executing hexec, hu]
  exact congrArg (fun x => { s.answered r rest st body with heads := u.heads, executing := x }) (State.ready_executing hr).symm

theorem State.startHead_of_signal {s : State} {h : HeadId} (hsignal : (s.head h).laneSignal = true) :
    s.startHead h = s.updHead h Head.start := if_pos hsignal

theorem State.startHead_of_no_signal {s : State} {h : HeadId} (hsignal : (s.head h).laneSignal = false) :
    s.startHead h = (s.updHead h Head.start).laneLoss h := if_neg (by simp [hsignal])

/-- A head that starts without its lane signal is lost at once (R22, R32). -/
theorem Head.lostTo_start (hd : Head) : hd.start.lostTo .laneLost .offline .laneLost .offline none hd.start.laneSignal
    = { hd with
      state := .offline, phase := none, reason := .laneLost, classIndex := none, roundTrip := none
      profile := none, resultWindow := 0, generation := hd.generation + 1
      events := hd.events ||| HeadEvent.offline.bit, tracking := [], sendQueue := [], laneBuffer := []
      reception := none, laneHeld := false, fenceTimer := none, probeWaiting := false, roundTripTimer := none
      slot := none, sites := (hd.start.cleared.closeSites .laneLost).sites
      blocks := (hd.start.cleared.closeSites .laneLost).blocks } := rfl

theorem Head.live_start (hd : Head) (i : SiteId) : hd.start.Live i ↔ hd.Live i := by
  simp only [Head.Live, Head.site_start]

theorem Head.rejected_start (hd : Head) (i : SiteId) : hd.start.Rejected i ↔ hd.Rejected i := by
  simp only [Head.Rejected, Head.site_start]
  rfl

/-- The reply that ends a request after a closing: the ABORTED reply, the notice, and the reply (R13, R31). -/
theorem State.Closed.answered {s t : State} {r : Request} {rest : List Request} {h : HeadId} {e : HeadEvent}
    {before hd : Head} (hr : s.ready r rest) (hc : (s.take r rest).Closed t h e before hd) :
    t.reply .done .empty = { s with
      heads := (t.reply .done .empty).heads, requests := rest
      reservations := if s.abortedFor h = [] then s.reservations else s.reservations.erase h
      upstream := s.upstream ++ s.abortedFor h ++ s.noticesFor h e before ((t.reply .done .empty).head h) 1
        ++ [.reply ⟨r.id, r.code, .done, .empty⟩]
      analysis := s.analysis.filter (fun it => it.head != h)
      solveList := s.solveList.filter (fun j => j.head != h), engine := s.engine.overtake h } := by
  obtain ⟨-, hframe, hup, -⟩ := hc
  have hexec : t.executing = some r := by rw [hframe]; rfl
  rw [State.noticesFor_take hr] at hup
  rw [State.head_reply, State.reply_of_executing hexec, hup, hframe, State.ready_executing hr]
  rfl

/-- Settles O18: with the signal the head starts; without it the closing acts on the started head. -/
theorem headStartBeginsTraining : Obligations.HeadStartBeginsTraining := by
  intro s r rest hr hp h hd
  have hexec : exec .headStart s = .next (((s.take r rest).startHead h).reply .done .empty) :=
    congrArg Host.Outcome.next (State.execute_passes _ hr hp)
  refine ⟨_, hexec, fun k hk => ?_, fun hsignal => ?_, fun hsignal => ?_⟩
  · rw [State.head_reply, (s.take r rest).onlyHead_startHead h k hk, State.head_take]
  · rw [State.startHead_of_signal (s := s.take r rest) hsignal]
    refine ⟨?_, ?_⟩
    · rw [State.answered_eq .done .empty hr rfl]
    · rw [State.head_reply, State.head_updHead_self]
      exact Head.start_eq hd
  · rw [State.startHead_of_no_signal (s := s.take r rest) hsignal]
    have hclose := (s.take r rest).laneLoss_updHead_closed h (k := Head.start) rfl rfl rfl
    have hhead := hclose.head.trans (Head.lost_eq _ _)
    rw [State.head_take] at hhead
    refine ⟨hclose.answered hr, ?_, fun i => ⟨fun hlive => ?_, fun hlive => ?_⟩⟩ <;> rw [State.head_reply, hhead]
    · exact Head.lostTo_start hd
    · have hsite := Head.site_lostTo_of_not_live .laneLost .offline .laneLost .offline none hd.start.laneSignal
        (mt (hd.live_start i).mp hlive)
      rwa [Head.site_start] at hsite
    · have hsite := Head.site_lostTo_of_live .laneLost .offline .laneLost .offline none hd.start.laneSignal
        ((hd.live_start i).mpr hlive)
      rwa [Head.site_start, Head.rejected_start] at hsite

/-! ### HEAD_RESET (R33) -/

theorem State.resetHead_closed (s : State) (h : HeadId) :
    s.Closed (s.resetHead h) h .offline { s.head h with events := 0 } ((s.head h).closed none).headReset :=
  s.closed_raise h none .offline Head.headReset _ rfl rfl

theorem Head.headReset_closed (hd : Head) :
    { (hd.closed none).headReset with events := (hd.closed none).headReset.events ||| HeadEvent.offline.bit }
      = { Head.reset with
        reason := .reset, generation := hd.generation + 1, events := HeadEvent.offline.bit
        setup := hd.setup, mask := hd.mask, geometry := hd.geometry, windows := hd.windows
        supplyGood := hd.supplyGood, laneSignal := hd.laneSignal, transmitting := hd.transmitting
        laneOut := hd.laneOut, reception := hd.reception.map (fun _ => .discarding)
        sites := tabulate (fun i =>
          { Site.reset with
            enabledNext := (hd.site i).enabledNext, failLimit := (hd.site i).failLimit
            logEnable := (hd.site i).logEnable }) } := by
  have hbit : (hd.closed none).headReset.events ||| HeadEvent.offline.bit = HeadEvent.offline.bit := BitVec.zero_or
  rw [hbit]
  rfl

/-- Settles O19: the closing without loss marking, the reset values, and the event OFFLINE in the emptied set. -/
theorem headResetClearsTheHead : Obligations.HeadResetClearsTheHead := by
  intro s r rest hr hp h hd
  have hexec : exec .headReset s = .next (((s.take r rest).resetHead h).reply .done .empty) :=
    congrArg Host.Outcome.next (State.execute_passes _ hr hp)
  have hclose := (s.take r rest).resetHead_closed h
  have hanswered := hclose.answered hr
  have hhead := hclose.head.trans (Head.headReset_closed _)
  refine ⟨_, hexec, fun k hk => ?_, ?_, congrArg State.upstream hanswered, ?_⟩
  · rw [State.head_reply, hclose.onlyHead k hk, State.head_take]
  · rw [hanswered]
  · rw [State.head_reply, hhead, State.head_take]

/-! ### DEVICE_RESET (R16) -/

theorem State.abortedReply_of_wanted {s : State} {h : HeadId} {a : Access} {id code : Byte}
    (hslot : (s.head h).slot = some a) (horigin : a.origin = .mainframe id code) (hwanted : a.replyWanted = true)
    (hres : h ∈ s.reservations) : s.abortedReply h = [.reply ⟨id, code, .aborted, .empty⟩] := by
  simp only [State.abortedReply, hslot, horigin, hwanted, hres, and_self, if_true]

theorem State.abortedReply_of_unwanted {s : State} {h : HeadId} {a : Access} (hslot : (s.head h).slot = some a)
    (hno : a.origin = .profileRead ∨ a.replyWanted = false ∨ h ∉ s.reservations) : s.abortedReply h = [] := by
  simp only [State.abortedReply, hslot]
  split
  · rfl
  · rename_i id code horigin
    refine if_neg fun ⟨hwanted, hres⟩ => ?_
    rcases hno with hread | hunwanted | hfree
    · rw [hread] at horigin
      cases horigin
    · rw [hunwanted] at hwanted
      cases hwanted
    · exact hfree hres

/-- Settles O17: the reply comes first, and then the ABORTED replies of the heads in order. -/
theorem deviceResetRestoresPowerOnValues : Obligations.DeviceResetRestoresPowerOnValues := by
  intro s r rest hr hp
  have hexec : exec .deviceReset s = .next ((s.take r rest).deviceReset r) :=
    congrArg Host.Outcome.next (State.execute_passes _ hr hp)
  obtain ⟨-, -, hlink, -⟩ := id hr
  refine ⟨_, hexec, ?_, (s.take r rest).head_deviceReset r, (s.take r rest).abortedReply, ?_,
    fun h => ⟨fun hslot => ?_, fun a ha => ⟨fun hno => State.abortedReply_of_unwanted (s := s.take r rest) ha hno,
      fun id code horigin hwanted hres => State.abortedReply_of_wanted (s := s.take r rest) ha horigin hwanted hres⟩⟩⟩
  · rw [← hlink]
    rfl
  · rw [State.deviceReset]
    simp [allFin, List.ofFn_succ]
  · have hnone : ((s.take r rest).head h).slot = none := hslot
    simp only [State.abortedReply, hnone]

end Sys2Proof.Machine
end

section
/-! The Request Executor: its checks and the reading requests (1.4, 1.5, and 2.2, 2.5, 3.2, 3.9, 4.2, 6.1, 6.2, 7.5,
8.5). -/

namespace Sys2Proof.Machine

/-! ### The checks (R9) -/

/-- The arguments of a request do not fit its form. -/
def Request.Bad (r : Request) (form : RequestForm) : Prop :=
  form = .unknown ∨ r.args.length ≠ form.argLength ∨ ∃ p ∈ form.indices, p.2 ≤ (r.arg p.1).toNat

theorem Request.check_of_bad {r : Request} {s : State} (hbad : r.Bad r.form) : r.check s = some .badArgument := by
  unfold Request.check
  split_ifs with hunknown hlen hidx
  · rfl
  · rfl
  · rfl
  all_goals
    rcases hbad with h | h | h
    · exact absurd h hunknown
    · exact absurd h hlen
    · simp only [List.any_eq_true, decide_eq_true_eq] at hidx
      exact absurd h hidx

theorem Request.check_of_refused {r : Request} {s : State} (hgood : ¬ r.Bad r.form)
    (hrefused : r.form.accepted s r.head = false) : r.check s = some .refusedState := by
  simp only [Request.Bad, not_or] at hgood
  obtain ⟨hunknown, hlen, hidx⟩ := hgood
  unfold Request.check
  rw [if_neg hunknown, if_neg hlen, if_neg, if_pos hrefused]
  simpa using hidx

theorem exec_of_check {c : Instr} {s : State} {r : Request} {rest : List Request} {st : Status}
    (hc : requestFormOf c = some r.form) (hr : s.ready r rest) (hcheck : r.check s = some st) :
    exec c s = .next (s.answered r rest st .empty) := by
  obtain ⟨act, hact, -⟩ := exec_request hc
  rw [hact, State.execute_fails act hr hcheck]

theorem State.noneIn_iff (s : State) (p : HeadState → Bool) : s.noneIn p = true ↔ ∀ k, p (s.head k).state = false := by
  simp [State.noneIn, allFin_eq_finRange]

/-! ### Codes and places (10.3) -/

theorem Request.form_of_unknown_code {id code : Byte} {args : List Byte} (hcode : code = 0 ∨ 21 ≤ code.toNat) :
    (⟨id, code, args⟩ : Request).form = .unknown := by
  have hrange : code.toNat = 0 ∨ 21 ≤ code.toNat := hcode.imp_left (by rintro rfl; rfl)
  simp only [Request.form]
  split
  case h_21 => rfl
  all_goals omega

theorem writeForm_of_selector {selector : Byte} {rest : List Byte} (hsel : 5 ≤ selector.toNat) :
    writeForm (selector :: rest) = .unknown := by
  simp only [writeForm, List.head?_cons, Option.map_some]
  split <;> simp_all

theorem readForm_of_selector {selector : Byte} {rest : List Byte} (hsel : 6 ≤ selector.toNat) :
    readForm (selector :: rest) = .unknown := by
  simp only [readForm, List.head?_cons, Option.map_some]
  split <;> simp_all

theorem Request.head_val {r : Request} {form : RequestForm} (hform : r.form = form) :
    r.head.val = (r.args.getD form.headPlace 0).toNat % 4 := by
  subst hform
  rfl

/-- A further byte of a number multiplies what stands before it by 256 (R158). -/
theorem Request.num_succ {r : Request} {i n : Nat} (hlen : i + n < r.args.length) :
    r.num i (n + 1) = r.num i n * 256 + (r.arg (i + n)).toNat := by
  have hbyte : (r.args.drop i)[n]? = some (r.arg (i + n)) := by
    rw [List.getElem?_drop, List.getElem?_eq_getElem hlen, Request.arg, byteAt, List.getD_eq_getElem _ _ hlen]
  rw [Request.num, List.take_add_one, hbyte]
  simp [beNat, Request.num]

/-- Settles O15: the checks are made in their order, and the tables of forms are those of the catalogue. -/
theorem failedCheckIsAnsweredAndChangesNothing : Obligations.FailedCheckIsAnsweredAndChangesNothing := by
  refine ⟨fun c form s r rest hc hr hform => ?_, fun s h => ?_, by decide, by decide, by decide, ?_, ?_, ?_,
    fun id code selector args rest => ⟨Request.form_of_unknown_code, writeForm_of_selector, readForm_of_selector, rfl, rfl⟩,
    ?_, ?_, fun r i n => ⟨rfl, rfl, rfl, ?_, rfl, Request.num_succ⟩⟩
  · subst hform
    exact ⟨fun hbad => exec_of_check hc hr (Request.check_of_bad hbad),
      fun hgood hrefused => exec_of_check hc hr (Request.check_of_refused hgood hrefused)⟩
  · dsimp only
    refine ⟨by simp [RequestForm.accepted], ?_, ?_, ?_, ?_, ?_, ?_, ?_, ?_, ?_, ?_, ?_, ?_⟩
    case refine_5 =>
      simp only [RequestForm.accepted, State.noneIn_iff]
      refine forall_congr' fun k => ?_
      cases (s.head k).state <;> simp [HeadState.collecting]
    case refine_6 => simp [RequestForm.accepted, State.noneIn_iff]
    all_goals
      simp only [List.forall_mem_cons, RequestForm.accepted]
      cases (s.head h).state <;> simp [HeadState.writable, HeadState.inSegment, HeadState.collecting]
  · intro p hp id args
    fin_cases hp <;> rfl
  · intro p hp id rest
    fin_cases hp <;> rfl
  · intro p hp id rest
    fin_cases hp <;> rfl
  · intro form hmem r hform
    rw [Request.head_val hform]
    fin_cases hmem <;> rfl
  · intro form hmem r hform
    rw [Request.head_val hform]
    fin_cases hmem <;> rfl
  · simp [Request.flag]

/-! ### The reading requests -/

/-- A request whose owner only replies. -/
theorem execute_answers {s : State} {r : Request} {rest : List Request} {form : RequestForm}
    {act : Request → State → State} {st : Status} {body : ReplyBody} (hr : s.ready r rest) (hp : r.passes form s)
    (hact : act r (s.take r rest) = (s.take r rest).reply st body) :
    (Host.Outcome.next (s.execute form act) : Host.Outcome State Fault Refusal) = .next (s.answered r rest st body) := by
  rw [State.execute_passes act hr hp, hact, State.reply_take hr]

/-- Settles O16: each owner replies with what stands. -/
theorem readbackAnswersAndChangesNothing : Obligations.ReadbackAnswersAndChangesNothing := by
  intro s r rest hr
  dsimp only
  refine ⟨by simp [RequestForm.accepted], fun hform hargs => ?_, fun hp => execute_answers hr hp ?_,
    fun hp => execute_answers hr hp rfl, fun hp => execute_answers hr hp rfl, fun hp => execute_answers hr hp rfl,
    fun hp => execute_answers hr hp rfl, fun hp => execute_answers hr hp rfl, fun hp => execute_answers hr hp rfl,
    fun hp => execute_answers hr hp rfl, fun hp => execute_answers hr hp ?_, fun hp => execute_answers hr hp ?_⟩
  · refine exec_of_check (by rw [hform]; rfl) hr (Request.check_of_bad (.inr (.inl ?_)))
    rw [hform]
    exact fun hlen => hargs (List.length_eq_zero_iff.mp hlen)
  · rfl
  · simp only [Head.verdictReport, allFin_eq_finRange]
    rfl
  · simp only [Head.repairReport, Geometry.reported, allFin_eq_finRange]
    rw [State.head_take]
    cases (s.head r.head).geometry.loaded <;> rfl

end Sys2Proof.Machine
end

section
/-! The requests that write a head's setup, the tables and the limits (2.2, 2.4, 3.2, 4.2, 6.1, 6.2). -/

namespace Sys2Proof.Machine

/-! ### Requests that change one head -/

/-- A request whose owner changes its head and replies. -/
theorem execute_updHead {s : State} {r : Request} {rest : List Request} {form : RequestForm}
    {act : Request → State → State} {st : Status} {body : ReplyBody} (f : Head → Head) (hr : s.ready r rest)
    (hp : r.passes form s) (hact : act r (s.take r rest) = ((s.take r rest).updHead r.head f).reply st body) :
    ∃ t, (Host.Outcome.next (s.execute form act) : Host.Outcome State Fault Refusal) = .next t ∧ s.onlyHead t r.head
      ∧ t = { s.answered r rest st body with heads := t.heads } ∧ t.head r.head = f (s.head r.head) := by
  refine ⟨_, rfl, ?_⟩
  rw [State.execute_passes act hr hp, hact]
  refine ⟨fun k hk => ?_, ?_, ?_⟩
  · rw [State.head_reply, State.head_updHead_ne _ _ hk, State.head_take]
  · rw [State.answered_eq st body hr rfl]
  · rw [State.head_reply, State.head_updHead_self, State.head_take]

theorem doneOr_not_decide (p : Prop) [Decidable p] : doneOr (!decide p) = if p then .done else .adjusted := by
  by_cases h : p <;> simp [doneOr, h]

theorem doneOr_bne {α : Type} [DecidableEq α] (a b : α) : doneOr (a != b) = if a = b then .done else .adjusted :=
  doneOr_not_decide (a = b)

/-! ### HEAD_SETUP, HEAD_COMMIT and HEAD_RELEASE (R25 to R27) -/

theorem CheckMode.ofCode_code (c : CheckMode) : CheckMode.ofCode c.code = some c := by cases c <;> rfl
theorem StopPolicy.ofCode_code (p : StopPolicy) : StopPolicy.ofCode p.code = some p := by cases p <;> rfl
theorem LogMode.ofCode_code (l : LogMode) : LogMode.ofCode l.code = some l := by cases l <;> rfl
theorem MarkerAction.ofCode_code (a : MarkerAction) : MarkerAction.ofCode a.code = some a := by cases a <;> rfl

theorem CheckMode.ofCode_of_le {c : Byte} (hc : 4 ≤ c.toNat) : CheckMode.ofCode c = Option.none := by
  simp only [CheckMode.ofCode]
  split <;> simp_all
theorem StopPolicy.ofCode_of_le {c : Byte} (hc : 2 ≤ c.toNat) : StopPolicy.ofCode c = none := by
  simp only [StopPolicy.ofCode]
  split <;> simp_all
theorem LogMode.ofCode_of_le {c : Byte} (hc : 3 ≤ c.toNat) : LogMode.ofCode c = none := by
  simp only [LogMode.ofCode]
  split <;> simp_all
theorem MarkerAction.ofCode_of_le {c : Byte} (hc : 4 ≤ c.toNat) : MarkerAction.ofCode c = none := by
  simp only [MarkerAction.ofCode]
  split <;> simp_all
theorem fenceOfCode_of_le {c : Byte} (hc : 4 ≤ c.toNat) : fenceOfCode c = none := dif_neg (by omega)
theorem fenceOfCode_val {c : Byte} {f : Fin 4} (hf : f.val = c.toNat) : fenceOfCode c = some f :=
  (dif_pos (hf ▸ f.isLt)).trans (congrArg some (Fin.ext hf.symm))

theorem Request.setup_of_illegal {r : Request} (hbad : 4 ≤ (r.arg 1).toNat ∨ 2 ≤ (r.arg 2).toNat ∨ 3 ≤ (r.arg 3).toNat
    ∨ 4 ≤ (r.arg 4).toNat) : r.setup = none := by
  unfold Request.setup
  rcases hbad with h | h | h | h
  · rw [CheckMode.ofCode_of_le h]
  · rw [StopPolicy.ofCode_of_le h]
    cases CheckMode.ofCode (r.arg 1) <;> rfl
  · rw [LogMode.ofCode_of_le h]
    cases CheckMode.ofCode (r.arg 1) <;> cases StopPolicy.ofCode (r.arg 2) <;> rfl
  · rw [fenceOfCode_of_le h]
    cases CheckMode.ofCode (r.arg 1) <;> cases StopPolicy.ofCode (r.arg 2) <;> cases LogMode.ofCode (r.arg 3) <;> rfl

theorem Request.setup_of_legal {r : Request} {c : CheckMode} {p : StopPolicy} {l : LogMode} {f : Fin 4}
    (hc : c.code = r.arg 1) (hp : p.code = r.arg 2) (hl : l.code = r.arg 3) (hf : f.val = (r.arg 4).toNat) :
    r.setup = some ⟨c, p, l, f, min (max (r.arg 5).toNat 1) 64⟩ := by
  unfold Request.setup
  rw [← hc, ← hp, ← hl, CheckMode.ofCode_code, StopPolicy.ofCode_code, LogMode.ofCode_code, fenceOfCode_val hf]
  rfl

theorem State.setup_of_none {s : State} {r : Request} (hsetup : r.setup = none) :
    s.setup r = s.reply .badArgument .empty := by
  simp only [State.setup, hsetup]

theorem State.setup_of_some {s : State} {r : Request} {x : Setup} (hsetup : r.setup = some x) :
    s.setup r = (s.updHead r.head (fun hd => { hd with setup := x })).reply
      (if x.proxyTimeout = (r.arg 5).toNat then .done else .adjusted) (.setup x) := by
  simp only [State.setup, hsetup, doneOr_bne]

theorem Head.commits_iff {hd : Head} {p : Profile} (hp : hd.profile = some p) :
    hd.commits = true ↔ hd.geometry.loaded = true ∧ hd.geometry.ioc ≤ p.ioMax := by
  simp [Head.commits, hp]

theorem Head.commits_of_none {hd : Head} (hp : hd.profile = none) : hd.commits = false := by
  simp [Head.commits, hp]

theorem State.commit_of_commits {s : State} {h : HeadId} (hc : (s.head h).commits = true) :
    s.commit h = (s.updHead h (fun hd => { hd with state := .ready })).reply .done .empty := if_pos hc

theorem State.commit_of_not_commits {s : State} {h : HeadId} (hc : ¬ (s.head h).commits = true) :
    s.commit h = s.reply .badArgument .empty := if_neg hc

theorem State.onlyHead_answered (s : State) (r : Request) (rest : List Request) (st : Status) (body : ReplyBody)
    (h : HeadId) : s.onlyHead (s.answered r rest st body) h := fun _ _ => rfl

/-- Settles O20: the setup by its codes, the commit by its two conditions, and the release. -/
theorem setupCommitAndRelease : Obligations.SetupCommitAndRelease := by
  intro s r rest hr
  dsimp only
  refine ⟨fun hp => ?_, fun hp => ⟨fun hprofile => ?_, fun p hprofile => ⟨fun hyes => ?_, fun hno => ?_⟩⟩,
    fun hp => execute_updHead (act := fun r s => (s.updHead r.head (fun hd => { hd with state := .config })).reply .done .empty)
      (fun hd => { hd with state := .config }) hr hp rfl⟩
  · cases hsetup : r.setup with
    | none =>
      have hexec : exec .headSetup s = .next (s.answered r rest .badArgument .empty) :=
        execute_answers hr hp (State.setup_of_none hsetup)
      refine ⟨_, hexec, s.onlyHead_answered r rest _ _ _, fun _ => rfl, fun c p l fc hc hp hl hf => ?_⟩
      rw [Request.setup_of_legal hc hp hl hf] at hsetup
      cases hsetup
    | some x =>
      obtain ⟨t, hexec, honly, hframe, hhead⟩ := execute_updHead (act := fun r s => s.setup r) _ hr hp
        (State.setup_of_some hsetup)
      refine ⟨t, hexec, honly, fun hbad => ?_, fun c p l fc hc hp hl hf => ?_⟩
      · rw [Request.setup_of_illegal hbad] at hsetup
        cases hsetup
      · rw [Request.setup_of_legal hc hp hl hf] at hsetup
        cases hsetup
        exact ⟨hframe, hhead⟩
  · exact execute_answers hr hp (State.commit_of_not_commits (s := s.take r rest)
      (by rw [State.head_take, Head.commits_of_none hprofile]; nofun))
  · exact execute_updHead (act := fun r s => s.commit r.head) _ hr hp
      (State.commit_of_commits (s := s.take r rest) ((Head.commits_iff hprofile).mpr hyes))
  · exact execute_answers hr hp (State.commit_of_not_commits (s := s.take r rest) (mt (Head.commits_iff hprofile).mp hno))

/-! ### The tables and the limits (R21, R44, R64, R101, R103) -/

theorem geometryValid_iff (rb cb bb ioc : Nat) : geometryValid rb cb bb ioc = true
    ↔ 1 ≤ rb ∧ rb ≤ 16 ∧ 1 ≤ cb ∧ cb ≤ 12 ∧ bb ≤ 4 ∧ bb < rb ∧ 1 ≤ ioc ∧ ioc ≤ 16 := decide_eq_true_iff

theorem setAt_getElem {α : Type} {n : Nat} (v : Vector α n) (i j : Fin n) (x : α) :
    (setAt v i x)[j] = if j = i then x else v[j] := by
  simp only [setAt, Fin.getElem_fin, Vector.getElem_set, Fin.ext_iff, eq_comm]

/-- An index in range names its entry. -/
theorem Request.eq_entryAt_iff {r : Request} {k : Nat} (hk : (r.arg k).toNat < 8) (i : Fin 8) :
    i = r.entryAt k ↔ i.val = (r.arg k).toNat := by
  rw [Fin.ext_iff]
  exact Eq.congr_right (Nat.mod_eq_of_lt hk)

theorem Request.eq_siteAt_iff {r : Request} {k : Nat} (hk : (r.arg k).toNat < 16) (i : SiteId) :
    i = r.siteAt k ↔ i.val = (r.arg k).toNat := by
  rw [Fin.ext_iff]
  exact Eq.congr_right (Nat.mod_eq_of_lt hk)

/-- The indices of a request that passes its checks are in range. -/
theorem Request.passes.index_lt {r : Request} {form : RequestForm} {s : State} (hp : r.passes form s) (k bound : Nat)
    (hk : (k, bound) ∈ form.indices := by decide) : (r.arg k).toNat < bound := by
  obtain ⟨-, -, -, hidx, -⟩ := hp
  exact hidx _ hk

theorem Request.geometry_of_invalid {r : Request} (hbad : ¬ geometryValid (r.arg 2).toNat (r.arg 3).toNat
    (r.arg 4).toNat (r.arg 5).toNat = true) : r.geometry = none := if_neg hbad

theorem Request.geometry_of_valid {r : Request} (hvalid : geometryValid (r.arg 2).toNat (r.arg 3).toNat
    (r.arg 4).toNat (r.arg 5).toNat = true) : r.geometry = some ⟨true, (r.arg 2).toNat, (r.arg 3).toNat, (r.arg 4).toNat,
      (r.arg 5).toNat, min (r.arg 6).toNat 4, min (r.arg 7).toNat 4⟩ := if_pos hvalid

theorem State.writeGeometry_of_none {s : State} {r : Request} (hg : r.geometry = none) :
    s.writeGeometry r = s.reply .badArgument .empty := by
  simp only [State.writeGeometry, hg]

theorem State.writeGeometry_of_some {s : State} {r : Request} {g : Geometry} (hg : r.geometry = some g) :
    s.writeGeometry r = (s.updHead r.head (fun hd => hd.writeGeometry g)).reply
      (doneOr (g.sr != (r.arg 6).toNat || g.sc != (r.arg 7).toNat)) (.geometry g) := by
  simp only [State.writeGeometry, hg]

/-- Spare counts of at most 4 are taken as given. -/
theorem doneOr_spares (a b : Nat) :
    doneOr (min a 4 != a || min b 4 != b) = if a ≤ 4 ∧ b ≤ 4 then .done else .adjusted := by
  have hmin (a : Nat) : (min a 4 != a) = !decide (a ≤ 4) := by
    by_cases h : a ≤ 4 <;> simp [h]
  rw [hmin, hmin, ← Bool.not_and, ← Bool.decide_and, doneOr_not_decide]

/-- Values below 2^28 are taken as given. -/
theorem doneOr_windowCut (r : Request) : doneOr r.windowCut
    = if r.num 4 4 < 2 ^ 28 ∧ r.num 8 4 < 2 ^ 28 ∧ r.num 12 4 < 2 ^ 28 ∧ r.num 16 4 < 2 ^ 28 then .done
      else .adjusted := by
  have hcut : r.windowCut = !decide (r.num 4 4 < 2 ^ 28 ∧ r.num 8 4 < 2 ^ 28 ∧ r.num 12 4 < 2 ^ 28 ∧ r.num 16 4 < 2 ^ 28) := by
    rw [Bool.eq_iff_iff]
    simp only [Request.windowCut, Bool.or_eq_true, decide_eq_true_eq, Bool.not_eq_true', decide_eq_false_iff_not]
    omega
  rw [hcut, doneOr_not_decide]

/-- Settles O21: a geometry by its validity, a window cut to 28 bits. -/
theorem geometryAndWindowWrites : Obligations.GeometryAndWindowWrites := by
  intro s r rest hr
  dsimp only
  refine ⟨fun hp => ⟨fun hbad => ?_, fun hvalid => ?_⟩, fun hp => ?_⟩
  · rw [← geometryValid_iff] at hbad
    exact execute_answers hr hp (State.writeGeometry_of_none (Request.geometry_of_invalid hbad))
  · rw [← geometryValid_iff] at hvalid
    rw [← doneOr_spares]
    exact execute_updHead (act := fun r s => s.writeGeometry r) _ hr hp
      (State.writeGeometry_of_some (Request.geometry_of_valid hvalid))
  · obtain ⟨t, hexec, honly, hframe, hhead⟩ := execute_updHead (act := fun r s =>
      (s.updHead r.head (fun hd => { hd with windows := setAt hd.windows (r.entryAt 2) r.window })).reply
        (doneOr r.windowCut) (.window r.window)) _ hr hp rfl
    refine ⟨t, r.window, hexec, honly, by simp [Request.window, Request.flag], rfl, rfl, rfl, rfl, ?_, fun i => ?_⟩
    · rw [← doneOr_windowCut]
      exact hframe
    · rw [hhead]
      refine ⟨rfl, ?_⟩
      dsimp only
      rw [setAt_getElem]
      simp only [Request.eq_entryAt_iff (hp.index_lt 2 8)]

/-- A request whose owner writes the shared tables and replies. -/
theorem execute_tables {s : State} {r : Request} {rest : List Request} {form : RequestForm}
    {act : Request → State → State} {st : Status} {body : ReplyBody} (m : Vector Marker 8) (l : Vector LatencyClass 8)
    (hr : s.ready r rest) (hp : r.passes form s)
    (hact : act r (s.take r rest) = { s.take r rest with markers := m, latency := l }.reply st body) :
    (Host.Outcome.next (s.execute form act) : Host.Outcome State Fault Refusal)
      = .next { s.answered r rest st body with markers := m, latency := l } := by
  have hexec : ({ s.take r rest with markers := m, latency := l } : State).executing = some r := rfl
  rw [State.execute_passes act hr hp, hact, State.reply_of_executing hexec]
  exact congrArg (fun x => Host.Outcome.next { s.answered r rest st body with markers := m, latency := l, executing := x })
    (State.ready_executing hr).symm

theorem State.writeMarker_of_none {s : State} {r : Request} (hm : r.marker = none) :
    s.writeMarker r = s.reply .badArgument .empty := by
  simp only [State.writeMarker, hm]

theorem State.writeMarker_of_some {s : State} {r : Request} {m : Marker} (hm : r.marker = some m) :
    s.writeMarker r = { s with markers := setAt s.markers (r.entryAt 1) m }.reply .done (.marker m) := by
  simp only [State.writeMarker, hm]

theorem doneOr_bne_or {α β : Type} [DecidableEq α] [DecidableEq β] (a b : α) (c d : β) :
    doneOr (a != b || c != d) = if a = b ∧ c = d then .done else .adjusted := by
  rw [← doneOr_not_decide, Bool.decide_and, Bool.not_and]
  rfl

/-- The head with the limits that a request gives to one of its sites (R44). -/
def Head.writeLimits (hd : Head) (r : Request) : Head :=
  hd.updSite (r.siteAt 2) (fun st => { st with failLimit := r.num 3 2, logEnable := r.flag 5 })

theorem Head.site_writeLimits (hd : Head) (r : Request) (i : SiteId) : (hd.writeLimits r).site i
    = if i = r.siteAt 2 then { hd.site i with failLimit := r.num 3 2, logEnable := r.flag 5 } else hd.site i := by
  unfold Head.writeLimits
  split_ifs with hi
  · rw [hi, Head.site_updSite_self]
  · rw [Head.site_updSite_ne _ _ hi]

/-- The owner's part of TABLE_WRITE LATENCY_CLASS (R21). -/
def State.writeLatency (s : State) (r : Request) : State :=
  { s with latency := setAt s.latency (r.entryAt 1) r.latencyClass }.reply
    (doneOr (r.latencyClass.maxRoundTrip != r.num 3 2 || r.latencyClass.window != r.num 5 2)) (.latencyClass r.latencyClass)

/-- Settles O22: each table's entry is written whole. -/
theorem sharedTableAndLimitWrites : Obligations.SharedTableAndLimitWrites := by
  intro s r rest hr
  dsimp only
  refine ⟨fun hp => ⟨fun hbad => ?_, fun act hact => ?_⟩, fun hp => ?_, fun hp => ?_⟩
  · refine execute_answers hr hp (State.writeMarker_of_none ?_)
    rw [Request.marker, MarkerAction.ofCode_of_le hbad]
    rfl
  · have hm : r.marker = some ⟨r.flag 2, r.arg 3, r.arg 4, (r.arg 5).extractLsb' 0 4, act⟩ := by
      rw [Request.marker, ← hact, MarkerAction.ofCode_code]
      rfl
    refine ⟨_, execute_tables (act := fun r s => s.writeMarker r) _ s.latency hr hp
      (State.writeMarker_of_some (s := s.take r rest) hm), rfl, fun i => ?_⟩
    dsimp only
    rw [setAt_getElem]
    simp only [Request.eq_entryAt_iff (hp.index_lt 1 8)]
    rfl
  · rw [← doneOr_bne_or]
    refine ⟨_, execute_tables (act := fun r s => s.writeLatency r) s.markers (setAt s.latency (r.entryAt 1) r.latencyClass)
      hr hp rfl, rfl, fun i => ?_⟩
    dsimp only
    rw [setAt_getElem]
    simp only [Request.eq_entryAt_iff (hp.index_lt 1 8)]
    rfl
  · obtain ⟨t, hexec, honly, hframe, hhead⟩ := execute_updHead (act := fun r s =>
      (s.updHead r.head (fun hd => hd.writeLimits r)).reply .done (.siteLimits (r.num 3 2) (r.flag 5)))
      (fun hd => hd.writeLimits r) hr hp rfl
    refine ⟨t, hexec, honly, hframe, ?_, fun i => ?_⟩
    · rw [hhead]
      rfl
    · rw [hhead, Head.site_writeLimits]
      simp only [Request.eq_siteAt_iff (hp.index_lt 2 16)]

end Sys2Proof.Machine
end

section
/-! The requests on segments, the Fail Log, the head events and the maintenance proxy (1.6, 2.10, 3.2, 3.4, 3.7,
chapter 9). -/

namespace Sys2Proof.Machine

/-! ### SET_SITES and SEGMENT_OPEN (R43, R46) -/

theorem Head.presentSet_getLsbD (hd : Head) (i : SiteId) : hd.presentSet.getLsbD i.val = (hd.site i).present :=
  siteSet_getLsbD _ i

/-- Settles O23: the set named is cut to the sites present and staged. -/
theorem setSitesStagesThePresentSites : Obligations.SetSitesStagesThePresentSites := by
  intro s r rest hr hp
  dsimp only
  obtain ⟨t, hexec, honly, hframe, hhead⟩ := execute_updHead (act := fun r s => s.setSites r)
    (fun hd => hd.stage (r.sites &&& (s.head r.head).presentSet)) hr hp rfl
  refine ⟨t, r.sites &&& (s.head r.head).presentSet, hexec, honly, fun i => ?_, ?_, hhead⟩
  · rw [BitVec.getLsbD_and, Head.presentSet_getLsbD]
    rfl
  · rw [doneOr_bne] at hframe
    exact hframe

theorem Head.openSegment_eq (hd : Head) : hd.openSegment = { hd with
    tagCounter := 0, state := .testing, capture := true, logArmed := false
    vectorIndex := 0, skipped := 0, log := [], overrun := false
    sites := tabulate (fun i => (hd.site i).openSegment)
    blocks := tabulate (fun i => tabulate (fun b =>
      if ((hd.site i).enabledNext && (hd.site i).present) = true ∧ b.val < 2 ^ hd.geometry.bb then Block.opened
      else Block.reset)) } := by
  have hon (i : SiteId) : ((hd.mapSites (fun _ st => st.openSegment)).site i).enabled
      = ((hd.site i).enabledNext && (hd.site i).present) := by
    rw [Head.site_mapSites]
    rfl
  unfold Head.openSegment Head.mapBlocks
  dsimp only
  simp only [hon]
  rfl

/-- Settles O24: the segment opens on the head whose generation has gone up. -/
theorem segmentOpenPreparesTheHead : Obligations.SegmentOpenPreparesTheHead := by
  intro s r rest hr hp
  dsimp only
  have hexec : ((s.take r rest).bumpGeneration r.head |>.updHead r.head Head.openSegment).executing = some r := rfl
  refine ⟨_, congrArg Host.Outcome.next (State.execute_passes _ hr hp), ?_, ?_, ?_⟩
  · intro k hk
    rw [State.head_reply]
    exact (s.take r rest).onlyHead_openSegment r.head k hk
  · rw [State.reply_of_executing hexec]
    exact congrArg (fun x => ({ s.answered r rest .done .empty with
      heads := (((s.take r rest).bumpGeneration r.head).updHead r.head Head.openSegment).heads
      analysis := s.analysis.filter (fun it => it.head != r.head), engine := s.engine.overtake r.head
      executing := x } : State)) (State.ready_executing hr).symm
  · rw [State.head_reply, State.head_openSegment, State.head_take, Head.openSegment_eq]
    rfl

/-! ### STOP_SITE (R53, R55) -/

theorem Head.stopSite_eq (hd : Head) (i : SiteId) (why : StopReason) : hd.stopSite i why = { hd with
    sites := (hd.stopSite i why).sites, blocks := (hd.stopSite i why).blocks } := rfl

/-- A head with a site stopped and its COLLECTING blocks STOPPED, before its verdict is fixed (R53). -/
def Head.stopped (hd : Head) (i : SiteId) (why : StopReason) : Head :=
  (hd.updSite i (fun st => { st with stopped := true, stopReason := why })).mapBlocks
    (fun j _ b => if j = i then b.stop else b)

theorem Head.site_stopped_self (hd : Head) (i : SiteId) (why : StopReason) :
    (hd.stopped i why).site i = { hd.site i with stopped := true, stopReason := why } :=
  (Head.site_mapBlocks _ _ _).trans (Head.site_updSite_self hd i _)

theorem Head.block_stopped (hd : Head) (i : SiteId) (why : StopReason) (b : BlockId) :
    (hd.stopped i why).block i b = (hd.block i b).stop := by
  rw [Head.stopped, Head.block_mapBlocks, if_pos rfl, Head.block_updSite]

theorem Head.stopSite_stopped (hd : Head) (i : SiteId) (why : StopReason) :
    hd.stopSite i why = (hd.stopped i why).finalise (fun j => j == i) := rfl

theorem Head.site_stopSite_ne (hd : Head) {i j : SiteId} (why : StopReason) (hj : j ≠ i) :
    (hd.stopSite i why).site j = hd.site j := by
  rw [Head.stopSite_stopped, Head.site_finalise, if_neg (by simp [hj]), Head.stopped, Head.site_mapBlocks,
    Head.site_updSite_ne _ _ hj]

theorem Head.site_stopSite_self (hd : Head) (i : SiteId) (why : StopReason) : (hd.stopSite i why).site i
    = { hd.site i with stopped := true, stopReason := why, verdict := ((hd.stopSite i why).site i).verdict } := by
  rw [Head.stopSite_stopped, Head.site_finalise, Head.site_stopped_self]
  split_ifs <;> rfl

theorem Head.verdict_stopSite_of_final (hd : Head) (i : SiteId) (why : StopReason)
    (hfinal : (hd.site i).verdict.isFinal = true) : ((hd.stopSite i why).site i).verdict = (hd.site i).verdict := by
  rw [Head.stopSite_stopped, Head.site_finalise, Head.site_stopped_self, if_neg (by simp [hfinal])]

theorem Block.stop_state_eq_unrepairable_iff (b : Block) : b.stop.state = .unrepairable ↔ b.state = .unrepairable := by
  unfold Block.stop
  split_ifs with h
  · simp [h]
  · rfl

/-- The verdict that a stop fixes (R53, R58). -/
theorem Head.verdict_stopSite (hd : Head) (i : SiteId) {why : StopReason} (hwhy : why ≠ .none)
    (he : (hd.site i).enabled = true) (hfinal : (hd.site i).verdict.isFinal = false) :
    ((hd.stopSite i why).site i).verdict
      = if (∃ b, (hd.block i b).state = .unrepairable) ∨ (hd.site i).unmapped = true ∨ why ≠ .manual then .unrepairable
        else .incomplete := by
  have hverdict : ((hd.stopSite i why).site i).verdict = verdictOf ((hd.stopped i why).site i) (hd.stopped i why).blocks[i] := by
    rw [Head.stopSite_stopped, Head.site_finalise, if_pos (by simp [Head.site_stopped_self, hfinal])]
  have hcause : why = .failLimit ∨ why = .reject ↔ why ≠ .manual := by
    cases why <;> simp at hwhy ⊢
  have hmanual : ¬ why ≠ .manual → ((hd.site i).causes ≠ 0 ∨ why = .manual) := fun h => .inr (not_not.mp h)
  rw [hverdict, Head.verdictOf_of_enabled _ _ (by simpa [Head.site_stopped_self] using he)]
  simp only [Head.site_stopped_self, Head.block_stopped, Block.stop_state_eq_unrepairable_iff, hcause]
  split_ifs with h1 h2
  · rfl
  · rfl
  all_goals exact absurd (hmanual fun h => h1 (.inr (.inr h))) h2

theorem Block.stop_eq_ite (b : Block) : b.stop = if b.state = .collecting then { b with state := .stopped } else b := rfl

theorem State.stopSite_of_live {s : State} {h : HeadId} {i : SiteId} {why : StopReason}
    (he : ((s.head h).site i).enabled = true) (hs : ((s.head h).site i).stopped = false) :
    s.stopSite h i why = (s.updHead h (fun hd => hd.stopSite i why)).raise h .siteStopped :=
  if_pos ⟨he, by simp [hs]⟩

theorem State.stopSite_of_stopped {s : State} {h : HeadId} {i : SiteId} {why : StopReason}
    (hs : ((s.head h).site i).stopped = true) : s.stopSite h i why = s :=
  if_neg fun hlive => hlive.2 hs

theorem State.raised_stopSite (s : State) (h : HeadId) (i : SiteId) (why : StopReason)
    (he : ((s.head h).site i).enabled = true) (hs : ((s.head h).site i).stopped = false) :
    s.Raised (s.stopSite h i why) h .siteStopped ((s.head h).stopSite i why) :=
  State.stopSite_of_live he hs ▸ s.raised_updHead h .siteStopped (fun hd => hd.stopSite i why) rfl rfl

/-- An owner that raises an event and then replies: the notice, then the reply. -/
theorem State.Raised.answered {s t : State} {r : Request} {rest : List Request} {h : HeadId} {e : HeadEvent} {hd : Head}
    (ht : (s.take r rest).Raised t h e hd) (hr : s.ready r rest) (st : Status) (body : ReplyBody) :
    s.onlyHead (t.reply st body) h ∧ (t.reply st body).requests = rest
      ∧ (t.reply st body).upstream = s.upstream ++ s.noticesFor h e (s.head h) ((t.reply st body).head h) 1
        ++ [.reply ⟨r.id, r.code, st, body⟩]
      ∧ t.reply st body = { s with heads := (t.reply st body).heads, requests := rest, upstream := (t.reply st body).upstream }
      ∧ (t.reply st body).head h = { hd with events := hd.events ||| e.bit } := by
  have hexec : t.executing = some r := by rw [ht.frame]; rfl
  have hup := ht.upstream
  rw [State.noticesFor_take hr, State.head_take] at hup
  refine ⟨fun k hk => ?_, ?_, ?_, ?_, ?_⟩
  · rw [State.head_reply, ht.onlyHead k hk, State.head_take]
  · rw [State.reply_of_executing hexec, ht.frame]
    rfl
  · rw [State.head_reply, State.reply_of_executing hexec]
    exact congrArg (· ++ [UpFrame.reply ⟨r.id, r.code, st, body⟩]) hup
  · have hframe : t = { s.take r rest with heads := t.heads, upstream := t.upstream } := ht.frame
    rw [State.reply_of_executing hexec, hframe]
    exact congrArg (fun x => ({ s with heads := t.heads, requests := rest
                                       upstream := t.upstream ++ [.reply ⟨r.id, r.code, st, body⟩], executing := x } : State))
      (State.ready_executing hr).symm
  · rw [State.head_reply, ht.head]

/-- Settles O26: the site by its flags, and what a stop makes of it. -/
theorem stopSiteStopsOneSite : Obligations.StopSiteStopsOneSite := by
  intro s r rest hr hp
  dsimp only
  have hexec : exec .stopSite s = .next ((s.take r rest).stopRequest r) :=
    congrArg Host.Outcome.next (State.execute_passes _ hr hp)
  refine ⟨fun hdisabled => ?_, fun henabled hstopped => ?_, fun henabled hlive => ?_⟩
  · exact execute_answers hr hp (if_neg (by simp [hdisabled]))
  · exact execute_answers hr hp ((if_pos henabled).trans
      (congrArg (State.reply · .done .empty) (State.stopSite_of_stopped hstopped)))
  · have hraised := (s.take r rest).raised_stopSite r.head (r.siteAt 1) .manual henabled hlive
    obtain ⟨honly, hreq, hup, hframe, hhead⟩ := hraised.answered hr .done .empty
    have hact : (s.take r rest).stopRequest r
        = ((s.take r rest).stopSite r.head (r.siteAt 1) .manual).reply .done .empty := if_pos henabled
    rw [hexec, hact]
    rw [State.head_take] at hhead
    generalize ((s.take r rest).stopSite r.head (r.siteAt 1) .manual).reply .done .empty = t at *
    refine ⟨t, rfl, honly, hreq, hup, hframe, ?_, fun j hj => ?_, fun j b => ?_, ?_, fun hfinal => ?_, fun hfinal => ?_⟩
    · rw [hhead, Head.stopSite_eq]
    · rw [hhead, Head.site_set_events, Head.site_stopSite_ne _ _ hj]
    · rw [hhead, Head.block_set_events, Head.block_stopSite, Block.stop_eq_ite, ite_and]
    · rw [hhead, Head.site_set_events]
      exact Head.site_stopSite_self _ _ _
    · rw [hhead, Head.site_set_events, Head.verdict_stopSite_of_final _ _ _ hfinal]
    · rw [hhead, Head.site_set_events, Head.verdict_stopSite _ _ (by decide) henabled hfinal]
      simp

/-! ### The Fail Log, the events and the proxy (R37, R151, R155, R156) -/

/-- The overrun flag is cleared exactly when an entry was removed (R151). -/
theorem overrun_and_isEmpty {log : List LogEntry} {n : Nat} (flag : Bool) (hn : 0 < n) :
    (flag && log.isEmpty) = if log.take n = [] then flag else false := by
  cases log with
  | nil => simp
  | cons e rest => simp [hn.ne']

/-- Settles O27: the count taken splits the log. -/
theorem logReadRemovesTheOldestEntries : Obligations.LogReadRemovesTheOldestEntries := by
  intro s r rest hr hform hlen harg
  dsimp only
  have hhead : Fin.ofNat 4 (r.arg 0).toNat = r.head := by rw [Request.head, hform]; rfl
  have hp : r.passes .logRead s := by
    refine ⟨hform, by decide, hlen, ?_, rfl⟩
    simpa [RequestForm.indices] using harg
  rw [hhead]
  obtain ⟨t, hexec, honly, hframe, hhd⟩ := execute_updHead (act := fun r s => s.readLog r)
    (fun hd => { hd with log := (s.head r.head).log.drop (clampTo 1 32 (r.arg 1).toNat), overrun := hd.overrun && hd.log.isEmpty })
    hr hp rfl
  rw [doneOr_bne, List.length_drop] at hframe
  refine ⟨t, (s.head r.head).log.take (clampTo 1 32 (r.arg 1).toNat), hexec, honly, ?_, List.length_take, hframe, ?_⟩
  · rw [hhd]
    exact (List.take_append_drop _ _).symm
  · rw [hhd, overrun_and_isEmpty (n := clampTo 1 32 (r.arg 1).toNat) _ (by unfold clampTo; omega)]

/-- While a request is executed, a notice needs three slots, one of them that of the reply (R13). -/
theorem State.two_le_freeSlots_take {s : State} {r : Request} (rest : List Request) :
    2 ≤ (s.take r rest).freeSlots ↔ s.upstream.length + s.reservations.length + 3 ≤ 32 := by
  rw [State.two_le_freeSlots_iff]
  simp [State.take, Config.upstreamQueueSize]

theorem State.offerNotice_eq (s : State) (h : HeadId) : s.offerNotice h = { s with
    upstream := s.upstream ++ (if s.link = .inSync ∧ 2 ≤ s.freeSlots then
      [.notice ⟨h, (s.head h).state, (s.head h).events⟩] else []) } := by
  unfold State.offerNotice
  split_ifs
  · rfl
  · rw [List.append_nil]

/-- The head with its event mask written (R156). -/
def Head.masked (hd : Head) (mask : BitVec 8) : Head := { hd with mask := mask }

/-- The notice of a set event that a written mask newly lets through (R156). -/
def State.maskNotices (s : State) (r : Request) : List UpFrame :=
  if (s.head r.head).events &&& r.arg 1 &&& ~~~ (s.head r.head).mask ≠ 0
      ∧ s.upstream.length + s.reservations.length + 3 ≤ 32 then
    [.notice ⟨r.head, (s.head r.head).state, (s.head r.head).events⟩]
  else []

theorem State.writeMask_eq {s : State} {r : Request} {rest : List Request} (hr : s.ready r rest) :
    (s.take r rest).writeMask r = { s with
      heads := (s.updHead r.head (Head.masked · (r.arg 1))).heads, requests := rest
      upstream := s.upstream ++ s.maskNotices r ++ [.reply ⟨r.id, r.code, .done, .events (r.arg 1)⟩] } := by
  have hidle := State.ready_executing hr
  obtain ⟨-, -, hlink, -⟩ := hr
  let u := (s.take r rest).updHead r.head (Head.masked · (r.arg 1))
  have hhead : u.head r.head = (s.head r.head).masked (r.arg 1) := (s.take r rest).head_updHead_self r.head _
  have hroom : (u.link = .inSync ∧ 2 ≤ u.freeSlots) ↔ s.upstream.length + s.reservations.length + 3 ≤ 32 := by
    rw [← State.two_le_freeSlots_take (s := s) (r := r) rest]
    exact and_iff_right hlink
  have hoffer : (if (s.head r.head).events &&& r.arg 1 &&& ~~~ (s.head r.head).mask != 0 then u.offerNotice r.head else u)
      = { u with upstream := s.upstream ++ s.maskNotices r } := by
    by_cases hnew : (s.head r.head).events &&& r.arg 1 &&& ~~~ (s.head r.head).mask = 0
    · rw [if_neg (by simp [hnew]), State.maskNotices, if_neg (by simp [hnew]), List.append_nil]
      rfl
    · rw [if_pos (bne_iff_ne.mpr hnew), State.offerNotice_eq, hhead, State.maskNotices]
      exact congrArg (fun x => { u with upstream := s.upstream ++ x })
        (if_congr (hroom.trans (and_iff_right hnew).symm) rfl rfl)
  refine (congrArg (State.reply · .done (.events (r.arg 1))) hoffer).trans ?_
  rw [State.reply_of_executing (r := r) rfl, ← hidle]
  rfl

/-- Settles O28: the set cut by the events named, and the notice of a newly masked-in event. -/
theorem eventClearAndEventMask : Obligations.EventClearAndEventMask := by
  intro s r rest hr
  dsimp only
  refine ⟨fun hp => execute_updHead (act := fun r s =>
      (s.updHead r.head (fun hd => { hd with events := (s.head r.head).events &&& ~~~ r.arg 1 })).reply .done
        (.events ((s.head r.head).events &&& ~~~ r.arg 1)))
      (fun hd => { hd with events := (s.head r.head).events &&& ~~~ r.arg 1 }) hr hp rfl, fun hp => ?_⟩
  have hexec : exec .eventMask s = .next ((s.take r rest).writeMask r) :=
    congrArg Host.Outcome.next (State.execute_passes _ hr hp)
  rw [State.writeMask_eq hr] at hexec
  exact ⟨_, hexec, State.onlyHead_updHead s r.head (Head.masked · (r.arg 1)), rfl,
    s.head_updHead_self r.head (Head.masked · (r.arg 1))⟩

/-- The head with an access in its proxy slot. -/
def Head.withAccess (hd : Head) (a : Access) : Head := { hd with slot := some a }

/-- Settles O29: the slot occupied, the head testing, or the access taken with its slot reserved. -/
theorem maintAccessIsTakenOrTurnedAway : Obligations.MaintAccessIsTakenOrTurnedAway := by
  intro s r rest hr hp
  dsimp only
  have htesting : ((s.head r.head).state.collecting = true ∧ ¬ r.intrusive = true)
      ↔ ((s.head r.head).state = .testing ∨ (s.head r.head).state = .draining) ∧ r.arg 10 = 0 := by
    cases (s.head r.head).state <;> simp [HeadState.collecting, Request.intrusive, Request.flag]
  refine ⟨fun hslot => ?_, fun hslot ht hflag => ?_, fun hslot hfree hnew => ?_⟩
  · exact execute_answers hr hp (if_pos (Option.isSome_iff_ne_none.mpr hslot))
  · exact execute_answers hr hp ((if_neg (by simp [hslot])).trans (if_pos (htesting.mpr ⟨ht, hflag⟩)))
  · let a := r.access (s.head r.head).setup.proxyDelay
    have hact : (s.take r rest).startAccess r
        = ((s.take r rest).updHead r.head (Head.withAccess · a)).reserve r.head :=
      (if_neg (by simp [hslot])).trans (if_neg (mt htesting.mp hfree))
    have hreserve : ((s.take r rest).updHead r.head (Head.withAccess · a)).reserve r.head
        = { s with heads := (s.updHead r.head (Head.withAccess · a)).heads, requests := rest
                   reservations := s.reservations ++ [r.head] } := by
      refine (congrArg (fun x => ({ s with
        heads := (s.updHead r.head (Head.withAccess · a)).heads, requests := rest, reservations := x
        executing := none } : State)) (if_neg hnew)).trans ?_
      rw [State.ready_executing hr]
      rfl
    exact ⟨_, (congrArg Host.Outcome.next (State.execute_passes _ hr hp)).trans
      (congrArg Host.Outcome.next (hact.trans hreserve)), State.onlyHead_updHead s r.head (Head.withAccess · a), rfl,
      s.head_updHead_self r.head (Head.withAccess · a)⟩

end Sys2Proof.Machine
end

section
/-! Acting on several heads in some order (R61; log entry 11): an action that changes one head, and depends on it alone,
gives each of the heads what it would give it on its own. -/

namespace Sys2Proof.Machine

/-! ### What one head sees of a state -/

/-- Two states agree in what the end of draining of head `h` reads and writes: the head, the fail items and the head's jobs
in the Solve List (R48, R49). -/
structure State.Agree (h : HeadId) (s s' : State) : Prop where
  head : s'.head h = s.head h
  analysis : s'.analysis = s.analysis
  engine : s'.engine = s.engine
  jobs : s'.solveList.filter (fun j => j.head == h) = s.solveList.filter (fun j => j.head == h)

theorem State.Agree.refl (h : HeadId) (s : State) : State.Agree h s s := ⟨rfl, rfl, rfl, rfl⟩

theorem State.Agree.trans {h : HeadId} {s t u : State} (h1 : State.Agree h s t) (h2 : State.Agree h t u) :
    State.Agree h s u :=
  ⟨h2.head.trans h1.head, h2.analysis.trans h1.analysis, h2.engine.trans h1.engine, h2.jobs.trans h1.jobs⟩

/-- An action changes the state only on head `h`, the Upstream Queue and that head's jobs, and what it makes of the head
depends on what the head sees alone. -/
structure State.ActsOn (h : HeadId) (f : State → State) : Prop where
  frame : ∀ s, f s = { s with heads := (f s).heads, upstream := (f s).upstream, solveList := (f s).solveList }
  others : ∀ s k, k ≠ h → State.Agree k s (f s)
  own : ∀ s s', State.Agree h s s' → State.Agree h (f s) (f s')

theorem State.ActsOn.id (h : HeadId) : State.ActsOn h (fun s => s) :=
  ⟨fun _ => rfl, fun s k _ => .refl k s, fun _ _ ha => ha⟩

theorem State.ActsOn.comp {h : HeadId} {f g : State → State} (hg : State.ActsOn h g) (hf : State.ActsOn h f) :
    State.ActsOn h (fun s => g (f s)) where
  frame s := by rw [hg.frame (f s), hf.frame s]
  others s k hk := (hf.others s k hk).trans (hg.others _ k hk)
  own s s' ha := hg.own _ _ (hf.own s s' ha)

/-- An action chosen by what the head sees. -/
theorem State.ActsOn.choose {α : Type} {h : HeadId} {F : α → State → State} (p : State → α)
    (hF : ∀ x, State.ActsOn h (F x)) (hp : ∀ s s', State.Agree h s s' → p s' = p s) :
    State.ActsOn h (fun s => F (p s) s) where
  frame s := (hF (p s)).frame s
  others s := (hF (p s)).others s
  own s s' ha := by
    rw [hp s s' ha]
    exact (hF (p s)).own s s' ha

theorem State.ActsOn.ite {h : HeadId} {c : State → Prop} [DecidablePred c] {f g : State → State}
    (hc : ∀ s s', State.Agree h s s' → (c s' ↔ c s)) (hf : State.ActsOn h f) (hg : State.ActsOn h g) :
    State.ActsOn h (fun s => if c s then f s else g s) where
  frame s := by
    split_ifs
    exacts [hf.frame s, hg.frame s]
  others s := by
    split_ifs
    exacts [hf.others s, hg.others s]
  own s s' ha := by
    simp only [hc s s' ha]
    split_ifs
    exacts [hf.own s s' ha, hg.own s s' ha]

theorem State.actsOn_updHead (h : HeadId) (g : Head → Head) : State.ActsOn h (fun s => s.updHead h g) where
  frame _ := rfl
  others s _ hk := ⟨State.head_updHead_ne s g hk, rfl, rfl, rfl⟩
  own s s' ha := by
    refine ⟨?_, ha.analysis, ha.engine, ha.jobs⟩
    rw [State.head_updHead_self, State.head_updHead_self, ha.head]

theorem State.actsOn_raise (h : HeadId) (e : HeadEvent) : State.ActsOn h (fun s => s.raise h e) where
  frame s := by
    rw [State.raise_frame]
  others s k hk := ⟨State.head_raise_ne s e hk, s.raise_analysis h e, s.raise_engine h e, by rw [State.raise_solveList]⟩
  own s s' ha := by
    refine ⟨?_, ?_, ?_, ?_⟩
    · rw [State.head_raise_self, State.head_raise_self, ha.head]
    · rw [State.raise_analysis, State.raise_analysis, ha.analysis]
    · rw [State.raise_engine, State.raise_engine, ha.engine]
    · rw [State.raise_solveList, State.raise_solveList, ha.jobs]

theorem State.actsOn_lose (h : HeadId) (c : LossCause) (x : BitVec 16) (e : HeadEvent) :
    State.ActsOn h (fun s => s.lose h c x e) :=
  (State.actsOn_raise h e).comp (State.actsOn_updHead h (Head.lose c x))

theorem State.Agree.drainJobs {h : HeadId} {s s' : State} (ha : State.Agree h s s') : s'.drainJobs h = s.drainJobs h := by
  unfold State.drainJobs
  rw [ha.head]

theorem State.Agree.hasLiveItem_iff {h : HeadId} {s s' : State} (ha : State.Agree h s s') :
    s'.hasLiveItem h ↔ s.hasLiveItem h := by
  unfold State.hasLiveItem
  rw [ha.head, ha.analysis, ha.engine]

theorem State.Agree.itemsLive {h : HeadId} {s s' : State} (ha : State.Agree h s s') : s'.itemsLive h = s.itemsLive h := by
  rw [Bool.eq_iff_iff, State.itemsLive_iff, State.itemsLive_iff]
  exact ha.hasLiveItem_iff

theorem State.filter_drainJobs_ne (s : State) {h k : HeadId} (hk : k ≠ h) :
    (s.drainJobs h).filter (fun j => j.head == k) = [] := by
  refine List.filter_eq_nil_iff.mpr fun j hj => ?_
  obtain ⟨hhead, -⟩ := State.eq_of_mem_drainJobs hj
  simp [hhead, hk.symm]

theorem State.actsOn_endDraining (h : HeadId) : State.ActsOn h (fun s => s.endDraining h) where
  frame s := State.endDraining_frame s h
  others s k hk := by
    refine ⟨s.onlyHead_endDraining h k hk, by rw [State.endDraining_frame], by rw [State.endDraining_frame], ?_⟩
    rw [State.solveList_endDraining, List.filter_append, State.filter_drainJobs_ne s hk, List.append_nil]
  own s s' ha := by
    refine ⟨?_, ?_, ?_, ?_⟩
    · rw [State.head_endDraining_self, State.head_endDraining_self, ha.head, ha.drainJobs]
    · rw [State.endDraining_frame, State.endDraining_frame s]
      exact ha.analysis
    · rw [State.endDraining_frame, State.endDraining_frame s]
      exact ha.engine
    · rw [State.solveList_endDraining, State.solveList_endDraining, List.filter_append, List.filter_append, ha.jobs,
        ha.drainJobs]

theorem State.actsOn_testDrain (h : HeadId) : State.ActsOn h (fun s => s.testDrain h) :=
  .ite (fun s s' ha => by rw [ha.head, ha.itemsLive]) (State.actsOn_endDraining h) (.id h)

theorem State.actsOn_closeSegment (h : HeadId) : State.ActsOn h (fun s => s.closeSegment h) :=
  (State.actsOn_testDrain h).comp (State.actsOn_updHead h _)

/-! ### All the orders of the heads -/

theorem insertions_eq {α : Type} (x : α) (l : List α) : insertions x l = l.permutations'Aux x := by
  induction l with
  | nil => rfl
  | cons y l ih => rw [insertions, ih, List.permutations'Aux]

theorem orders_eq {α : Type} (l : List α) : orders l = l.permutations' := by
  induction l with
  | nil => rfl
  | cons x l ih => rw [orders, ih, List.permutations', funext (insertions_eq x)]

theorem perm_of_mem_orders {α : Type} {o l : List α} (ho : o ∈ orders l) : o.Perm l := by
  rwa [orders_eq, List.mem_permutations'] at ho

section
variable {F : State → HeadId → State} (hF : ∀ h, State.ActsOn h (fun s => F s h))
include hF

omit hF in
theorem State.frame_trans {s t u : State}
    (ht : t = { s with heads := t.heads, upstream := t.upstream, solveList := t.solveList })
    (hu : u = { t with heads := u.heads, upstream := u.upstream, solveList := u.solveList }) :
    u = { s with heads := u.heads, upstream := u.upstream, solveList := u.solveList } := by
  rw [hu, ht]

theorem State.foldl_frame (o : List HeadId) (s : State) : o.foldl F s
    = { s with heads := (o.foldl F s).heads, upstream := (o.foldl F s).upstream, solveList := (o.foldl F s).solveList } := by
  induction o generalizing s with
  | nil => rfl
  | cons k o ih =>
    exact State.frame_trans ((hF k).frame s) (ih (F s k))

theorem State.foldl_agree_of_notMem (o : List HeadId) (s : State) {h : HeadId} (ho : h ∉ o) :
    State.Agree h s (o.foldl F s) := by
  induction o generalizing s with
  | nil => exact .refl h s
  | cons k o ih =>
    obtain ⟨hk, ho⟩ := List.ne_and_not_mem_of_not_mem_cons ho
    exact ((hF k).others s h hk).trans (ih (F s k) ho)

/-- In any order that names it once, a head gets what it would get on its own. -/
theorem State.foldl_agree_of_mem (o : List HeadId) (s : State) {h : HeadId} (hnodup : o.Nodup) (ho : h ∈ o) :
    State.Agree h (F s h) (o.foldl F s) := by
  induction o generalizing s with
  | nil => cases ho
  | cons k o ih =>
    obtain ⟨hk, hnodup⟩ := List.nodup_cons.mp hnodup
    rw [List.foldl_cons]
    by_cases he : h = k
    · subst he
      exact State.foldl_agree_of_notMem hF o _ hk
    · exact ((hF h).own _ _ ((hF k).others s h he)).trans (ih (F s k) hnodup ((List.mem_cons.mp ho).resolve_left he))

theorem State.inAnyOrder_frame (hs : List HeadId) (s : State) : s.inAnyOrder hs F
    = { s with heads := (s.inAnyOrder hs F).heads, upstream := (s.inAnyOrder hs F).upstream
               solveList := (s.inAnyOrder hs F).solveList, freeCount := (s.inAnyOrder hs F).freeCount } := by
  obtain ⟨o, -, n, heq⟩ := s.inAnyOrder_mem hs F
  rw [heq]
  exact congrArg (fun x : State => { x with freeCount := n }) (State.foldl_frame hF o s)

theorem State.inAnyOrder_agree_of_notMem {hs : List HeadId} (s : State) {h : HeadId} (hh : h ∉ hs) :
    State.Agree h s (s.inAnyOrder hs F) := by
  obtain ⟨o, ho, n, heq⟩ := s.inAnyOrder_mem hs F
  have ha := State.foldl_agree_of_notMem hF o s (mt (perm_of_mem_orders ho).mem_iff.mp hh)
  rw [heq]
  exact ⟨ha.head, ha.analysis, ha.engine, ha.jobs⟩

theorem State.inAnyOrder_agree_of_mem {hs : List HeadId} (s : State) {h : HeadId} (hnodup : hs.Nodup) (hh : h ∈ hs) :
    State.Agree h (F s h) (s.inAnyOrder hs F) := by
  obtain ⟨o, ho, n, heq⟩ := s.inAnyOrder_mem hs F
  have hperm := perm_of_mem_orders ho
  have ha := State.foldl_agree_of_mem hF o s (hperm.nodup_iff.mpr hnodup) (hperm.mem_iff.mpr hh)
  rw [heq]
  exact ⟨ha.head, ha.analysis, ha.engine, ha.jobs⟩

end

end Sys2Proof.Machine
end

section
/-! Bursts: the sequence check, the distribution, the placing, and the marker actions (1.3, chapter 4). -/

namespace Sys2Proof.Machine

/-! ### The handling of a burst for one head (R61, R63) -/

/-- A head that has lost results of a cause, with the event that reports it (R6, R71, R72). -/
def Head.lossReported (hd : Head) (c : LossCause) : Head :=
  { Head.lose c hd.siteEnable hd with events := hd.events ||| HeadEvent.resultLoss.bit }

/-- The head after steps 2 to 5 of R63. -/
def Head.afterBurst (hd : Head) (b : Burst) : Head :=
  if Config.sendQueueSize ≤ hd.sendQueue.length then
    if hd.classesCompare b then hd.lossReported .sendOverflow else hd
  else if hd.classesCompare b then
    if hd.tracking.length < Config.trackingQueueSize then hd.place b true
    else (hd.lossReported .trackOverflow).place b false
  else hd.place b false

theorem State.head_placeBurst_self (s : State) (h : HeadId) (b : Burst) :
    (s.placeBurst h b).head h = (s.head h).afterBurst b := by
  unfold State.placeBurst Head.afterBurst
  dsimp only
  split_ifs
  · exact State.head_lose_self s h _ _ _
  · rfl
  · exact State.head_updHead_self s h _
  · rw [State.head_updHead_self, State.head_lose_self]
    rfl
  · exact State.head_updHead_self s h _

theorem State.actsOn_placeBurst (h : HeadId) (b : Burst) : State.ActsOn h (fun s => s.placeBurst h b) := by
  have hlose (c : LossCause) : State.ActsOn h (fun s => s.lose h c (s.head h).siteEnable .resultLoss) :=
    .choose (F := fun x s => s.lose h c x .resultLoss) (fun s => (s.head h).siteEnable)
      (fun x => State.actsOn_lose h c x _) (fun _ _ ha => by rw [ha.head])
  exact .ite (fun _ _ ha => by rw [ha.head])
    (.ite (fun _ _ ha => by rw [ha.head]) (hlose .sendOverflow) (.id h))
    (.ite (fun _ _ ha => by rw [ha.head])
      (.ite (fun _ _ ha => by rw [ha.head]) (State.actsOn_updHead h _)
        ((State.actsOn_updHead h _).comp (hlose .trackOverflow)))
      (State.actsOn_updHead h _))

theorem State.actsOn_handleBurst (b : Burst) (m : Option Marker) (h : HeadId) :
    State.ActsOn h (fun s => State.handleBurst b m s h) := by
  have hplaced : State.ActsOn h (fun s => (s.updHead h (fun hd => hd.markerFlags (actionOn m h))).placeBurst h b) :=
    (State.actsOn_placeBurst h b).comp (State.actsOn_updHead h _)
  exact .ite (fun _ _ ha => by rw [ha.head])
    (.ite (fun _ _ _ => Iff.rfl) ((State.actsOn_closeSegment h).comp hplaced) hplaced) (State.actsOn_updHead h _)

theorem State.handleBurst_of_not_testing {b : Burst} {m : Option Marker} {s : State} {h : HeadId}
    (hstate : (s.head h).state ≠ .testing) : State.handleBurst b m s h = s.updHead h Head.skip := if_neg hstate

/-- Without END_SEGMENT the head is placed with the flags that the action leaves. -/
theorem State.head_handleBurst {b : Burst} {m : Option Marker} {s : State} {h : HeadId}
    (hstate : (s.head h).state = .testing) (hact : actionOn m h ≠ some .endSegment) :
    (State.handleBurst b m s h).head h = ((s.head h).markerFlags (actionOn m h)).afterBurst b := by
  unfold State.handleBurst
  rw [if_pos hstate]
  dsimp only
  rw [if_neg hact, State.head_placeBurst_self, State.head_updHead_self]

theorem State.handleBurst_of_end {b : Burst} {m : Option Marker} {s : State} {h : HeadId}
    (hstate : (s.head h).state = .testing) (hact : actionOn m h = some .endSegment) :
    State.handleBurst b m s h = (s.placeBurst h b).closeSegment h := by
  unfold State.handleBurst
  rw [if_pos hstate]
  dsimp only
  rw [if_pos hact, hact, State.updHead_eq_self]
  rfl

/-! ### The distribution (R62) -/

theorem Burst.mem_heads_iff (b : Burst) (h : HeadId) : h ∈ b.heads ↔ b.headMask.getLsbD h.val = true := by
  simp [Burst.heads]

theorem nodup_allFin (n : Nat) : (allFin n).Nodup := by
  rw [allFin_eq_finRange]
  exact List.nodup_finRange n

theorem Burst.nodup_heads (b : Burst) : b.heads.Nodup := (nodup_allFin 4).filter _

theorem State.revealsGap_eq_false {s : State} {b : Burst} (hexp : s.expected = none ∨ s.expected = some b.sequence) :
    s.revealsGap b = false := by
  rcases hexp with hexp | hexp <;> simp [State.revealsGap, hexp]

theorem State.revealsGap_eq_true {s : State} {b : Burst} {e : BitVec 16} (hexp : s.expected = some e)
    (hne : e ≠ b.sequence) : s.revealsGap b = true := by
  simp [State.revealsGap, hexp, hne]

/-- A burst heard in IN_SYNC is taken (R5). -/
theorem exec_burst {s : State} {f : LinkFrame} (hlink : s.link = .inSync) (hkind : f.kind = 0x01)
    (hlen : f.body.length = 11) (hcheck : f.checkPasses = true) :
    exec (.burst f) s = .next (s.checkPassed.takeBurst (Burst.read f.body)) :=
  execBurst_of_hears ((s.hears_iff f).mpr ⟨hlink, by omega, hcheck⟩) hkind hlen

/-- A burst that reveals no gap is distributed, with the expectation moved on and the failure run ended. -/
theorem State.takeBurst_of_no_gap {s : State} {b : Burst} (hexp : s.expected = none ∨ s.expected = some b.sequence) :
    s.checkPassed.takeBurst b = { s with failureRun := 0, expected := some (b.sequence + 1) }.inAnyOrder b.heads
      (State.handleBurst b (matchedMarker s.markers b.marker)) := by
  unfold State.takeBurst
  rw [State.revealsGap_eq_false (s := s.checkPassed) hexp]
  rfl

/-- The fields of a state that a burst leaves as they are: all but those of the heads, the Upstream Queue, the Solve List
and the count of free values. -/
def State.BurstFrame (s t : State) : Prop :=
  t = { s with heads := t.heads, upstream := t.upstream, solveList := t.solveList, freeCount := t.freeCount }

theorem State.distribute_frame (s : State) (b : Burst) : s.BurstFrame (s.distribute b) :=
  State.inAnyOrder_frame (State.actsOn_handleBurst b _) b.heads s

theorem State.actsOn_markGap (h : HeadId) : State.ActsOn h (fun s => s.markGap h) :=
  .choose (F := fun x s => s.lose h .gap x .resultLoss) (fun s => (s.head h).siteEnable)
    (fun x => State.actsOn_lose h .gap x _) (fun _ _ ha => by rw [ha.head])

theorem State.markGaps_frame (s : State) : s.BurstFrame s.markGaps :=
  State.inAnyOrder_frame State.actsOn_markGap s.testingHeads s

theorem State.takeBurst_frame (s : State) (b : Burst) :
    State.BurstFrame { s with expected := some (b.sequence + 1) } (s.takeBurst b) := by
  unfold State.takeBurst
  dsimp only
  have hmarked : s.BurstFrame (if s.revealsGap b then s.markGaps else s) := by
    split_ifs
    · exact s.markGaps_frame
    · exact rfl
  rw [State.BurstFrame, State.distribute_frame]
  generalize (if s.revealsGap b then s.markGaps else s) = u at *
  rw [hmarked]

/-- What a burst without a gap makes of a head it names, and of one that it does not name. -/
theorem State.agree_takeBurst {s : State} {b : Burst} (hexp : s.expected = none ∨ s.expected = some b.sequence) (h : HeadId) :
    State.Agree h (if b.headMask.getLsbD h.val = true then State.handleBurst b (matchedMarker s.markers b.marker) s h else s)
      (s.checkPassed.takeBurst b) := by
  rw [State.takeBurst_of_no_gap hexp]
  have hsame : State.Agree h s { s with failureRun := 0, expected := some (b.sequence + 1) } := ⟨rfl, rfl, rfl, rfl⟩
  split_ifs with hmask
  · exact ((State.actsOn_handleBurst b _ h).own _ _ hsame).trans
      (State.inAnyOrder_agree_of_mem (State.actsOn_handleBurst b _) _ b.nodup_heads ((b.mem_heads_iff h).mpr hmask))
  · exact hsame.trans (State.inAnyOrder_agree_of_notMem (State.actsOn_handleBurst b _) _ (mt (b.mem_heads_iff h).mp hmask))

/-! ### Skips (R5, R61) -/

theorem State.foldl_skip {b : Burst} {m : Option Marker} (o : List HeadId) (s : State)
    (hnone : ∀ h ∈ o, (s.head h).state ≠ .testing) :
    o.foldl (State.handleBurst b m) s = { s with heads := (o.foldl (State.handleBurst b m) s).heads } := by
  induction o generalizing s with
  | nil => rfl
  | cons k o ih =>
    have hk := State.handleBurst_of_not_testing (b := b) (m := m) (hnone k List.mem_cons_self)
    have hrest : ∀ h ∈ o, ((s.updHead k Head.skip).head h).state ≠ .testing := fun h hh => by
      by_cases he : h = k
      · subst he
        rw [State.head_updHead_self]
        exact hnone h (List.mem_cons_of_mem _ hh)
      · rw [State.head_updHead_ne _ _ he]
        exact hnone h (List.mem_cons_of_mem _ hh)
    rw [List.foldl_cons, hk, ih _ hrest]
    rfl

/-- With no head in TESTING among them, every order gives the same, so that no free value is taken. -/
theorem State.inAnyOrder_skip {b : Burst} {m : Option Marker} (hs : List HeadId) (s : State)
    (hnone : ∀ h ∈ hs, (s.head h).state ≠ .testing) : s.inAnyOrder hs (State.handleBurst b m)
      = { s with heads := (s.inAnyOrder hs (State.handleBurst b m)).heads } := by
  have hout (o : List HeadId) (ho : o ∈ orders hs) := State.foldl_skip (b := b) (m := m) o s
    fun h hh => hnone h ((perm_of_mem_orders ho).mem_iff.mp hh)
  unfold State.inAnyOrder
  dsimp only
  cases horders : orders hs with
  | nil => rfl
  | cons o rest =>
    have hall : (rest.map (fun o => o.foldl (State.handleBurst b m) s)).all (sameShared (o.foldl (State.handleBurst b m) s)) = true := by
      refine List.all_eq_true.mpr fun t ht => ?_
      obtain ⟨o', ho', rfl⟩ := List.mem_map.mp ht
      rw [hout o (by simp [horders]), hout o' (by simp [horders, ho'])]
      simp [sameShared]
    simp only [List.map_cons, hall, if_true]
    exact hout o (by simp [horders])

/-- Settles O10: the fields, the frame of a burst, and the heads that it does not name or skips. -/
theorem burstSequenceAndSkips : Obligations.BurstSequenceAndSkips := by
  intro s f hlink hkind hlen hcheck
  dsimp only
  refine ⟨rfl, _, exec_burst hlink hkind hlen hcheck, ?_⟩
  have hframe := s.checkPassed.takeBurst_frame (Burst.read f.body)
  have hagree (hexp) (h) := State.agree_takeBurst (s := s) (b := Burst.read f.body) hexp h
  have hskips (hexp : s.expected = none ∨ s.expected = some (Burst.read f.body).sequence)
      (hnone : ∀ h ∈ (Burst.read f.body).heads, (s.head h).state ≠ .testing) :
      s.checkPassed.takeBurst (Burst.read f.body) = { s with
        failureRun := 0, expected := some ((Burst.read f.body).sequence + 1)
        heads := (s.checkPassed.takeBurst (Burst.read f.body)).heads } := by
    rw [State.takeBurst_of_no_gap hexp]
    exact State.inAnyOrder_skip _ { s with failureRun := 0, expected := some ((Burst.read f.body).sequence + 1) } hnone
  generalize s.checkPassed.takeBurst (Burst.read f.body) = t at *
  refine ⟨?_, ?_, ?_, ?_, ?_, ?_, ?_, ?_, ?_, ?_, ?_, ?_, ?_, ?_, ?_,
    fun hexp => ⟨fun h => ⟨fun hmask => ?_, fun hmask hstate => ?_⟩, fun hnone =>
      hskips hexp fun h hh => hnone h ((Burst.mem_heads_iff _ h).mp hh)⟩⟩
  case refine_16 =>
    have hself := (hagree hexp h).head
    have hunnamed : ¬ (Burst.read f.body).headMask.getLsbD h.val = true := ne_of_eq_of_ne hmask Bool.false_ne_true
    rwa [if_neg hunnamed] at hself
  case refine_17 =>
    have hself := (hagree hexp h).head
    have hnamed : (Burst.read f.body).headMask.getLsbD h.val = true := hmask
    rw [if_pos hnamed, State.handleBurst_of_not_testing hstate, State.head_updHead_self] at hself
    exact hself
  all_goals
    rw [hframe]
    rfl

/-! ### Placing (R69 to R74) -/

theorem Head.classesCompare_iff (hd : Head) (b : Burst) :
    hd.classesCompare b = true ↔ b.compare = true ∧ hd.capture = true ∧ hd.siteEnable ≠ 0 := by
  simp [Head.classesCompare, and_assoc]

theorem Head.afterBurst_of_room {hd : Head} {b : Burst} (hsend : hd.sendQueue.length < 8)
    (htrack : hd.classesCompare b = true → hd.tracking.length < 32) :
    hd.afterBurst b = hd.place b (hd.classesCompare b) := by
  have hfree : ¬ Config.sendQueueSize ≤ hd.sendQueue.length := not_le.mpr hsend
  unfold Head.afterBurst
  rw [if_neg hfree]
  split_ifs with hclass hroom
  · rw [hclass]
  · exact absurd (htrack hclass) hroom
  · rw [Bool.not_eq_true] at hclass
    rw [hclass]

/-- A head in TESTING that a burst names, without a marker action, is as the placing leaves it. -/
theorem exec_burst_head {s t : State} {f : LinkFrame} {h : HeadId} (hlink : s.link = .inSync) (hkind : f.kind = 0x01)
    (hlen : f.body.length = 11) (hcheck : f.checkPasses = true) (hexec : exec (.burst f) s = .next t)
    (hexp : s.expected = none ∨ s.expected = some (Burst.read f.body).sequence)
    (hmask : (Burst.read f.body).headMask.getLsbD h.val = true) :
    State.Agree h (State.handleBurst (Burst.read f.body) (matchedMarker s.markers (Burst.read f.body).marker) s h) t := by
  have hagree := State.agree_takeBurst (s := s) (b := Burst.read f.body) hexp h
  rw [if_pos hmask] at hagree
  rw [exec_burst hlink hkind hlen hcheck] at hexec
  cases hexec
  exact hagree

theorem Head.place_compare (hd : Head) (b : Burst) : hd.place b true = { hd with
    sendQueue := hd.sendQueue ++ [⟨hd.tagCounter, true, b.order, b.length, b.baseRow.toNat % 2 ^ hd.geometry.rb,
      b.baseCol.toNat % 2 ^ hd.geometry.cb, b.patternId, hd.siteEnable⟩]
    tracking := hd.tracking ++ [⟨hd.tagCounter, b.baseRow.toNat % 2 ^ hd.geometry.rb,
      b.baseCol.toNat % 2 ^ hd.geometry.cb, b.vectors, b.order, hd.vectorIndex, hd.siteEnable, hd.logArmed, .waitingSend⟩]
    tagCounter := hd.tagCounter + 1
    vectorIndex := hd.vectorIndex + BitVec.ofNat 32 b.vectors } := rfl

theorem Head.place_drive (hd : Head) (b : Burst) : hd.place b false = { hd with
    sendQueue := hd.sendQueue ++ [⟨0, false, b.order, b.length, b.baseRow.toNat % 2 ^ hd.geometry.rb,
      b.baseCol.toNat % 2 ^ hd.geometry.cb, b.patternId, hd.siteEnable⟩]
    vectorIndex := hd.vectorIndex + BitVec.ofNat 32 b.vectors } := rfl

/-- A head in TESTING with room in its Send Queue has the burst placed as it is classed. -/
theorem exec_burst_placed {s : State} {f : LinkFrame} {h : HeadId} (hlink : s.link = .inSync) (hkind : f.kind = 0x01)
    (hlen : f.body.length = 11) (hcheck : f.checkPasses = true)
    (hexp : s.expected = none ∨ s.expected = some (Burst.read f.body).sequence)
    (hmask : (Burst.read f.body).headMask.getLsbD h.val = true) (hstate : (s.head h).state = .testing)
    (hact : actionOn (matchedMarker s.markers (Burst.read f.body).marker) h = none)
    (hsend : (s.head h).sendQueue.length < 8) : ∃ t, exec (.burst f) s = .next t
      ∧ ((Burst.read f.body).compare = true ∧ (s.head h).capture = true ∧ (s.head h).siteEnable ≠ 0 →
        (s.head h).tracking.length < 32 → t.head h = (s.head h).place (Burst.read f.body) true)
      ∧ ((Burst.read f.body).compare = false ∨ (s.head h).capture = false ∨ (s.head h).siteEnable = 0 →
        t.head h = (s.head h).place (Burst.read f.body) false) := by
  have hexec := exec_burst hlink hkind hlen hcheck
  have hhead := (exec_burst_head (h := h) hlink hkind hlen hcheck hexec hexp hmask).head
  rw [State.head_handleBurst hstate (by rw [hact]; nofun), hact] at hhead
  refine ⟨_, hexec, fun hcompare htrack => ?_, fun hdrive => ?_⟩
  · rw [hhead]
    rw [← Head.classesCompare_iff] at hcompare
    exact (Head.afterBurst_of_room hsend fun _ => htrack).trans (by rw [hcompare])
  · rw [hhead]
    have hclass : (s.head h).classesCompare (Burst.read f.body) = false := by
      rw [← Bool.not_eq_true, Head.classesCompare_iff]
      simp only [← Bool.not_eq_true] at hdrive
      tauto
    exact (Head.afterBurst_of_room hsend fun hc => absurd hc (by simp [hclass])).trans (by rw [hclass])

/-- Settles O11: the placing with room, by the class of the burst. -/
theorem burstIsPlacedForATestingHead : Obligations.BurstIsPlacedForATestingHead := by
  intro s f h hlink hkind hlen hcheck
  dsimp only
  intro hexp hmask hstate hact hsend
  exact exec_burst_placed hlink hkind hlen hcheck hexp hmask hstate hact hsend

theorem Head.siteEnable_getLsbD (hd : Head) (i : SiteId) :
    hd.siteEnable.getLsbD i.val = ((hd.site i).enabled && !(hd.site i).stopped) := siteSet_getLsbD _ i

/-- The sites that an event of the burst path marks: those enabled, not stopped and not final (R6, R56). -/
theorem Head.lossReported_eq (hd : Head) (c : LossCause) : hd.lossReported c = { hd with
    events := hd.events ||| HeadEvent.resultLoss.bit
    sites := tabulate (fun i =>
      if (hd.site i).enabled = true ∧ (hd.site i).stopped = false ∧ (hd.site i).verdict.isFinal = false then
        { hd.site i with causes := (hd.site i).causes ||| c.bit }
      else hd.site i) } := by
  have hsites : (Head.lose c hd.siteEnable hd).sites = tabulate (fun i =>
      if (hd.site i).enabled = true ∧ (hd.site i).stopped = false ∧ (hd.site i).verdict.isFinal = false then
        { hd.site i with causes := (hd.site i).causes ||| c.bit }
      else hd.site i) := by
    refine congrArg tabulate (funext fun i => ?_)
    dsimp only
    rw [Head.siteEnable_getLsbD, Site.lose]
    cases (hd.site i).enabled <;> cases (hd.site i).stopped <;> cases (hd.site i).verdict.isFinal <;> rfl
  rw [← hsites]
  rfl

theorem Head.afterBurst_of_sendFull_compare {hd : Head} {b : Burst} (hfull : 8 ≤ hd.sendQueue.length)
    (hclass : hd.classesCompare b = true) : hd.afterBurst b = hd.lossReported .sendOverflow :=
  (if_pos hfull).trans (if_pos hclass)

theorem Head.afterBurst_of_sendFull_drive {hd : Head} {b : Burst} (hfull : 8 ≤ hd.sendQueue.length)
    (hclass : ¬ hd.classesCompare b = true) : hd.afterBurst b = hd := (if_pos hfull).trans (if_neg hclass)

theorem Head.afterBurst_of_trackingFull {hd : Head} {b : Burst} (hroom : hd.sendQueue.length < 8)
    (hfull : 32 ≤ hd.tracking.length) (hclass : hd.classesCompare b = true) :
    hd.afterBurst b = (hd.lossReported .trackOverflow).place b false :=
  (if_neg (not_le.mpr hroom)).trans ((if_pos hclass).trans (if_neg (not_lt.mpr hfull)))

theorem Head.site_lossReported (hd : Head) (c : LossCause) (i : SiteId) : (hd.lossReported c).site i
    = if (hd.site i).enabled = true ∧ (hd.site i).stopped = false ∧ (hd.site i).verdict.isFinal = false then
        { hd.site i with causes := (hd.site i).causes ||| c.bit }
      else hd.site i := by
  rw [Head.lossReported_eq]
  exact tabulate_getElem_fin _ i

/-- A lost result leaves the site-enable field of a head burst (R69). -/
theorem Head.siteEnable_lossReported (hd : Head) (c : LossCause) : (hd.lossReported c).siteEnable = hd.siteEnable := by
  refine congrArg siteSet (funext fun i => ?_)
  rw [Head.site_lossReported]
  split_ifs <;> rfl

/-- Settles O12: the full queues, by the class of the burst. -/
theorem burstWithoutRoomIsMarked : Obligations.BurstWithoutRoomIsMarked := by
  intro s f h hlink hkind hlen hcheck
  dsimp only
  intro hexp hmask hstate hact
  have hexec := exec_burst hlink hkind hlen hcheck
  have hhead := (exec_burst_head (h := h) hlink hkind hlen hcheck hexec hexp hmask).head
  rw [State.head_handleBurst hstate (by rw [hact]; nofun), hact] at hhead
  have hflags : (s.head h).markerFlags none = s.head h := rfl
  rw [hflags] at hhead
  refine ⟨_, hexec, fun hfull hcompare => ?_, fun hfull hdrive => ?_, fun hroom hfull hcompare => ?_⟩
  · rw [hhead, Head.afterBurst_of_sendFull_compare hfull ((Head.classesCompare_iff _ _).mpr hcompare)]
    exact Head.lossReported_eq _ _
  · rw [hhead, Head.afterBurst_of_sendFull_drive hfull (mt (Head.classesCompare_iff _ _).mp hdrive)]
  · rw [hhead, Head.afterBurst_of_trackingFull hroom hfull ((Head.classesCompare_iff _ _).mpr hcompare),
      Head.place_drive, Head.siteEnable_lossReported, Head.lossReported_eq]
    rfl

/-! ### Gap handling (R6) -/

theorem State.head_markGap_self (s : State) (h : HeadId) : (s.markGap h).head h = (s.head h).lossReported .gap :=
  State.head_lose_self s h _ _ _

theorem State.mem_testingHeads_iff (s : State) (h : HeadId) : h ∈ s.testingHeads ↔ (s.head h).state = .testing := by
  simp [State.testingHeads]

theorem State.head_markGaps (s : State) (h : HeadId) :
    s.markGaps.head h = if (s.head h).state = .testing then (s.head h).lossReported .gap else s.head h := by
  split_ifs with hstate
  · rw [← State.head_markGap_self]
    exact (State.inAnyOrder_agree_of_mem State.actsOn_markGap s ((nodup_allFin 4).filter _)
      ((s.mem_testingHeads_iff h).mpr hstate)).head
  · exact (State.inAnyOrder_agree_of_notMem State.actsOn_markGap s (mt (s.mem_testingHeads_iff h).mp hstate)).head

/-- A frame of the Upstream Queue that gap handling can add: the notice of one of the heads marked. -/
def State.GapNotice (s : State) (hs : List HeadId) (x : UpFrame) : Prop :=
  ∃ h ∈ hs, x = .notice ⟨h, (s.head h).state, ((s.head h).lossReported .gap).events⟩

theorem State.eq_of_mem_noticesFor {s : State} {h : HeadId} {e : HeadEvent} {before after : Head} {n : Nat} {x : UpFrame}
    (hx : x ∈ s.noticesFor h e before after n) : x = .notice ⟨h, after.state, after.events⟩ := by
  exact List.mem_singleton.mp (List.mem_ite_nil_right.mp hx).2

theorem State.upstream_markGap (s : State) (h : HeadId) : ∃ notices, (s.markGap h).upstream = s.upstream ++ notices
    ∧ ∀ x ∈ notices, x = .notice ⟨h, (s.head h).state, ((s.head h).lossReported .gap).events⟩ := by
  refine ⟨_, State.upstream_raise _ h .resultLoss, fun x hx => ?_⟩
  have hhead := s.head_markGap_self h
  rw [State.markGap, State.lose] at hhead
  rw [State.eq_of_mem_noticesFor hx, hhead]
  rfl

theorem State.upstream_foldl_markGap (o : List HeadId) (s : State) (hnodup : o.Nodup) :
    ∃ notices, (o.foldl State.markGap s).upstream = s.upstream ++ notices ∧ ∀ x ∈ notices, s.GapNotice o x := by
  induction o generalizing s with
  | nil => exact ⟨[], (List.append_nil _).symm, fun _ hx => absurd hx List.not_mem_nil⟩
  | cons k o ih =>
    obtain ⟨hk, hnodup⟩ := List.nodup_cons.mp hnodup
    obtain ⟨first, hfirst, hnotice⟩ := s.upstream_markGap k
    obtain ⟨rest, hrest, hnotices⟩ := ih (s.markGap k) hnodup
    have hup : ((k :: o).foldl State.markGap s).upstream = s.upstream ++ first ++ rest :=
      hrest.trans (congrArg (· ++ rest) hfirst)
    refine ⟨first ++ rest, hup.trans (List.append_assoc _ _ _), fun x hx => ?_⟩
    rcases List.mem_append.mp hx with hx | hx
    · exact ⟨k, List.mem_cons_self, hnotice x hx⟩
    · obtain ⟨h, hh, rfl⟩ := hnotices x hx
      have hne : h ≠ k := fun he => hk (he ▸ hh)
      rw [((State.actsOn_markGap k).others s h hne).head]
      exact ⟨h, List.mem_cons_of_mem _ hh, rfl⟩

theorem State.solveList_foldl_markGap (o : List HeadId) (s : State) : (o.foldl State.markGap s).solveList = s.solveList := by
  induction o generalizing s with
  | nil => rfl
  | cons k o ih => exact (ih _).trans (State.lose_solveList s k _ _ _)

theorem State.solveList_markGaps (s : State) : s.markGaps.solveList = s.solveList := by
  obtain ⟨o, -, n, heq⟩ := s.inAnyOrder_mem s.testingHeads State.markGap
  rw [State.markGaps, heq]
  exact State.solveList_foldl_markGap o s

theorem State.upstream_markGaps (s : State) : ∃ notices, s.markGaps.upstream = s.upstream ++ notices
    ∧ ∀ x ∈ notices, s.GapNotice s.testingHeads x := by
  obtain ⟨o, ho, n, heq⟩ := s.inAnyOrder_mem s.testingHeads State.markGap
  have hperm := perm_of_mem_orders ho
  obtain ⟨notices, hup, hnotices⟩ := State.upstream_foldl_markGap o s
    (hperm.nodup_iff.mpr ((nodup_allFin 4).filter _))
  refine ⟨notices, ?_, fun x hx => ?_⟩
  · rw [State.markGaps, heq]
    exact hup
  · obtain ⟨h, hh, hx⟩ := hnotices x hx
    exact ⟨h, hperm.mem_iff.mp hh, hx⟩

/-- The state that gap handling leaves, before the burst sequence check has moved the expectation (R5, R6). -/
def State.gapMarked (s : State) : State :=
  { s.checkPassed.markGaps with expected := none, failureRun := s.failureRun }

theorem State.gapMarked_frame (s : State) : s.gapMarked
    = { s with heads := s.gapMarked.heads, upstream := s.gapMarked.upstream, freeCount := s.gapMarked.freeCount
               expected := none } := by
  have hframe := s.checkPassed.markGaps_frame
  have hjobs := s.checkPassed.solveList_markGaps
  unfold State.gapMarked
  generalize s.checkPassed.markGaps = m at *
  rw [hframe, hjobs]
  rfl

theorem State.takeBurst_gapMarked {s : State} {b : Burst} {e : BitVec 16} (hexp : s.expected = some e)
    (hne : e ≠ b.sequence) : s.checkPassed.takeBurst b = s.gapMarked.checkPassed.takeBurst b := by
  have hframe := s.checkPassed.markGaps_frame
  unfold State.takeBurst
  rw [State.revealsGap_eq_true (s := s.checkPassed) hexp hne,
    State.revealsGap_eq_false (s := s.gapMarked.checkPassed) (.inl rfl)]
  refine congrArg (State.distribute · b) ?_
  simp only [if_true, Bool.false_eq_true, if_false, State.gapMarked]
  generalize s.checkPassed.markGaps = m at *
  rw [hframe]
  rfl

/-- Settles O13: the marked state, on which the burst has no gap. -/
theorem gapMarksEveryTestingHead : Obligations.GapMarksEveryTestingHead := by
  intro s f e hlink hkind hlen hcheck hexp hne b n gapped
  have hgapped (h : HeadId) : gapped h = (s.head h).lossReported .gap := ((s.head h).lossReported_eq .gap).symm
  have huhead (h : HeadId) : s.gapMarked.head h = if (s.head h).state = .testing then gapped h else s.head h := by
    rw [hgapped]
    exact s.checkPassed.head_markGaps h
  have hulink : s.gapMarked.link = .inSync := by
    rw [State.gapMarked_frame]
    exact hlink
  have hexec := exec_burst hlink hkind hlen hcheck
  rw [State.takeBurst_gapMarked hexp hne] at hexec
  have huexec := exec_burst hulink hkind hlen hcheck
  have huframe := s.gapMarked_frame
  have hmarkers : s.gapMarked.markers = s.markers := by rw [huframe]
  have huexp : s.gapMarked.expected = none := rfl
  have hagree (h) := (State.agree_takeBurst (s := s.gapMarked) (b := Burst.read f.body) (.inl huexp) h).head
  have hexpected := State.takeBurst_frame s.gapMarked.checkPassed (Burst.read f.body)
  obtain ⟨notices, hnotices, hmade⟩ := s.checkPassed.upstream_markGaps
  refine ⟨s.gapMarked.checkPassed.takeBurst (Burst.read f.body), s.gapMarked, hexec, ?_, hexec.trans huexec.symm, huframe,
    huhead, ⟨notices, hnotices, fun x hx => ?_⟩, fun h hmask => ⟨fun hstate => ?_, fun hstate => ?_⟩,
    fun h hmask hstate hact hsend => ?_⟩
  · rw [hexpected]
  · obtain ⟨h, hh, rfl⟩ := hmade x hx
    have hstate : (s.head h).state = .testing := (s.mem_testingHeads_iff h).mp hh
    refine ⟨h, hstate, ?_⟩
    rw [← hstate, hgapped]
    rfl
  · have hunnamed : ¬ (Burst.read f.body).headMask.getLsbD h.val = true := ne_of_eq_of_ne hmask Bool.false_ne_true
    rw [hagree, if_neg hunnamed, huhead, if_neg hstate]
  · have hunnamed : ¬ (Burst.read f.body).headMask.getLsbD h.val = true := ne_of_eq_of_ne hmask Bool.false_ne_true
    rw [hagree, if_neg hunnamed, huhead, if_pos hstate]
  · have hself : s.gapMarked.head h = gapped h := (huhead h).trans (if_pos hstate)
    rw [← hmarkers] at hact
    obtain ⟨t, ht, hplaced⟩ := exec_burst_placed (s := s.gapMarked) (h := h) hulink hkind hlen hcheck (.inl huexp) hmask
      (by rw [hself]; exact hstate) hact (by rw [hself]; exact hsend)
    rw [huexec] at ht
    cases ht
    rw [hself] at hplaced
    exact hplaced

/-! ### Marker actions (R65 to R68) -/

theorem Marker.matchesMarker_iff (m : Marker) (v : Byte) :
    m.matchesMarker v = true ↔ m.enabled = true ∧ (v &&& m.matchMask) = (m.matchValue &&& m.matchMask) := by
  simp [Marker.matchesMarker]

/-- The first entry that matches is the matched one (R65). -/
theorem matchedMarker_eq_some {ms : Vector Marker 8} {v : Byte} {i : Fin 8} (hi : ms[i].matchesMarker v = true)
    (hfirst : ∀ j < i, ¬ ms[j].matchesMarker v = true) : matchedMarker ms v = some ms[i] := by
  refine List.find?_eq_some_iff_getElem.mpr ⟨hi, i, by simp, by simp, fun j hj => ?_⟩
  simpa using hfirst ⟨j, by omega⟩ hj

/-- CAPTURE_OFF and CAPTURE_ON write the capture flag, and LOG_ARM sets the log-armed flag (R66, R68). -/
theorem Head.markerFlags_eq (hd : Head) (a : Option MarkerAction) : hd.markerFlags a = { hd with
    capture := if a = some .captureOff then false else if a = some .captureOn then true else hd.capture
    logArmed := if a = some .logArm then true else hd.logArmed } := by
  rcases a with _ | a
  · rfl
  · cases a <;> rfl

theorem Head.afterBurst_flags (hd : Head) (b : Burst) : (hd.afterBurst b).state = hd.state
    ∧ (hd.afterBurst b).capture = hd.capture ∧ (hd.afterBurst b).logArmed = hd.logArmed := by
  unfold Head.afterBurst
  split_ifs <;> exact ⟨rfl, rfl, rfl⟩

/-- A head whose segment is closed waits in DRAINING, or has left it (R47 to R49). -/
theorem State.head_closeSegment (s : State) (h : HeadId) :
    (s.closeSegment h).head h = { s.head h with state := .draining }
      ∨ (s.closeSegment h).head h = (s.head h).drained (s.drainJobs h) := by
  by_cases hwait : (s.head h).tracking ≠ [] ∨ s.hasLiveItem h
  · rw [State.closeSegment_of_waiting hwait]
    exact .inl (State.head_updHead_self s h _)
  · obtain ⟨htrack, hlive⟩ := not_or.mp hwait
    rw [State.closeSegment_of_drained (not_not.mp htrack) hlive, State.head_endDraining_self, State.head_updHead_self,
      State.drainJobs_updHead_state]
    exact .inr rfl

theorem State.flags_closeSegment (s : State) (h : HeadId) :
    ((s.closeSegment h).head h).capture = (s.head h).capture ∧ ((s.closeSegment h).head h).logArmed = (s.head h).logArmed
      ∧ (((s.closeSegment h).head h).state = .draining ∨ ((s.closeSegment h).head h).state = .solving
        ∨ ((s.closeSegment h).head h).state = .ready) := by
  rcases s.head_closeSegment h with heq | heq
  · rw [heq]
    exact ⟨rfl, rfl, .inl rfl⟩
  · rw [heq, Head.drained_frame]
    refine ⟨rfl, rfl, .inr ?_⟩
    dsimp only
    split_ifs
    exacts [.inr rfl, .inl rfl]

/-- With room, placing changes the head alone. -/
theorem State.placeBurst_of_room {s : State} {h : HeadId} {b : Burst} (hsend : (s.head h).sendQueue.length < 8)
    (htrack : (s.head h).tracking.length < 32) :
    s.placeBurst h b = s.updHead h (fun hd => hd.place b ((s.head h).classesCompare b)) := by
  have hfree : ¬ Config.sendQueueSize ≤ (s.head h).sendQueue.length := not_le.mpr hsend
  unfold State.placeBurst
  dsimp only
  rw [if_neg hfree]
  split_ifs with hclass hroom
  · rw [hclass]
  · exact absurd htrack hroom
  · rw [Bool.not_eq_true] at hclass
    rw [hclass]

/-- The segment of a head with a placed burst is closed as if the head stood so placed (R63). -/
theorem State.closeSegment_placeBurst {s : State} {h : HeadId} {b : Burst} {placed : Head}
    (hsend : (s.head h).sendQueue.length < 8) (htrack : (s.head h).tracking.length < 32)
    (hplaced : (s.head h).afterBurst b = placed) :
    (s.placeBurst h b).closeSegment h = (s.updHead h (fun _ => { placed with state := .draining })).testDrain h := by
  unfold State.closeSegment
  rw [State.placeBurst_of_room hsend htrack, State.updHead_updHead]
  refine congrArg (State.testDrain · h) (State.updHead_congr s ?_)
  rw [← hplaced, Head.afterBurst_of_room hsend fun _ => htrack]

/-- Settles O14: the action of the first entry that matches, then the placing, then the end of the segment. -/
theorem markerActsOnTheHeadsInItsScope : Obligations.MarkerActsOnTheHeadsInItsScope := by
  intro s f h i hlink hkind hlen hcheck b hits hd act capture armed n row col field placed hexp hmask hstate hi hfirst
  have hmatched : matchedMarker s.markers b.marker = some s.markers[i] :=
    matchedMarker_eq_some ((Marker.matchesMarker_iff _ _).mpr hi) fun k hk => mt (Marker.matchesMarker_iff _ _).mp (hfirst k hk)
  have hexec := exec_burst hlink hkind hlen hcheck
  have hagree := exec_burst_head (h := h) hlink hkind hlen hcheck hexec hexp hmask
  rw [hmatched] at hagree
  have hact : actionOn (some s.markers[i]) h = act := rfl
  have hplain : act ≠ some .endSegment → (s.checkPassed.takeBurst b).head h = (hd.markerFlags act).afterBurst b :=
    fun hne => hagree.head.trans (State.head_handleBurst hstate hne)
  have hend : act = some .endSegment → State.Agree h ((s.placeBurst h b).closeSegment h) (s.checkPassed.takeBurst b) :=
    fun he => State.handleBurst_of_end hstate (hact.trans he) ▸ hagree
  have hflags : act ≠ some .endSegment → ((s.checkPassed.takeBurst b).head h).state = .testing
      ∧ ((s.checkPassed.takeBurst b).head h).capture = capture ∧ ((s.checkPassed.takeBurst b).head h).logArmed = armed :=
    fun hne => by
      obtain ⟨hs, hc, ha⟩ := (hd.markerFlags act).afterBurst_flags b
      rw [hplain hne, hs, hc, ha, Head.markerFlags_eq]
      exact ⟨hstate, rfl, rfl⟩
  have hplaced (hsend : hd.sendQueue.length < 8) (htrack : hd.tracking.length < 32) :
      (hd.markerFlags act).afterBurst b = placed := by
    have hclass : (hd.markerFlags act).classesCompare b = true ↔ b.compare = true ∧ capture = true ∧ field ≠ 0 := by
      rw [Head.classesCompare_iff, Head.markerFlags_eq]
      exact Iff.rfl
    rw [Head.afterBurst_of_room (by rwa [Head.markerFlags_eq]) fun _ => by rwa [Head.markerFlags_eq]]
    by_cases hc : b.compare = true ∧ capture = true ∧ field ≠ 0
    · rw [hclass.mpr hc, Head.place_compare, Head.markerFlags_eq]
      exact (if_pos hc).symm
    · rw [Bool.eq_false_iff.mpr (mt hclass.mp hc), Head.place_drive, Head.markerFlags_eq]
      exact (if_neg hc).symm
  generalize s.checkPassed.takeBurst b = t at *
  refine ⟨t, hexec, fun hscope => ?_, fun hscope => ?_, fun hsend htrack => ⟨fun hne => ?_, fun he => ?_⟩⟩
  · have hnone : act = none := if_neg (ne_of_eq_of_ne hscope Bool.false_ne_true)
    have hkept := hflags (by simp [hnone])
    simpa only [capture, armed, hnone, reduceCtorEq, if_false] using hkept
  · have hsome : act = some s.markers[i].action := if_pos hscope
    refine ⟨fun ha => ?_, fun ha => ?_, fun ha => ?_, fun ha => ?_⟩
    all_goals rw [ha] at hsome
    case refine_4 =>
      have hclosed := (hend hsome).head
      obtain ⟨hc, hl, hs⟩ := (s.placeBurst h b).flags_closeSegment h
      obtain ⟨-, hc', hl'⟩ := hd.afterBurst_flags b
      rw [State.head_placeBurst_self] at hc hl
      rw [hclosed]
      exact ⟨hc.trans hc', hl.trans hl', hs⟩
    all_goals
      have hkept := hflags (by simp [hsome])
      simpa [capture, armed, hsome] using hkept
  · exact (hplain hne).trans (hplaced hsend htrack)
  · have hplaced' : hd.afterBurst b = placed := by
      have hkeep : hd.markerFlags act = hd := by rw [he]; rfl
      rw [← hplaced hsend htrack, hkeep]
    have hclose := State.closeSegment_placeBurst hsend htrack hplaced'
    have hclosed := hend he
    rw [hclose] at hclosed
    intro closed
    let u := s.updHead h (fun _ => placed)
    have huhead : u.head h = placed := State.head_updHead_self s h _
    have hu : closed = u.closeSegment h := by
      rw [State.closeSegment, State.updHead_updHead]
    have hgeneration : placed.generation = hd.generation := by
      simp only [placed]
      split_ifs <;> rfl
    have hlive_iff : u.hasLiveItem h ↔ s.hasLiveItem h := by
      unfold State.hasLiveItem
      rw [huhead, hgeneration]
      exact Iff.rfl
    refine ⟨hclosed.head, hclosed.jobs, fun hwait => ?_, fun htracking hlive => ?_⟩
    · rw [← huhead, ← hlive_iff] at hwait
      refine (hclosed.head.trans (congrArg (State.head · h) (hu.trans (State.closeSegment_of_waiting hwait)))).trans ?_
      rw [State.head_updHead_self, huhead]
    · rw [← huhead] at htracking
      rw [← hlive_iff] at hlive
      rw [hclosed.head.trans (congrArg (State.head · h) (hu.trans (State.closeSegment_of_drained htracking hlive))),
        State.head_endDraining_self, State.head_updHead_self, huhead]
      exact Head.drained_frame _ _

end Sys2Proof.Machine
end

section
/-! The completion of a solve job: the block, the site's verdict, and the end of solving (8.2, 8.3). -/

namespace Sys2Proof.Machine

/-! ### The head on which a job ends -/

theorem Head.block_settleSite (hd : Head) (i j : SiteId) (b : BlockId) : (hd.settleSite i).block j b = hd.block j b := by
  unfold Head.settleSite
  split_ifs <;> rfl

theorem Head.block_finishJob (hd : Head) (j : SolveJob) (found : Option Solution) (last : Bool) (i : SiteId) (b : BlockId) :
    (hd.finishJob j found last).block i b
      = if i = j.site ∧ b = j.block then (hd.block j.site j.block).complete found else hd.block i b := by
  have hsettled : (hd.finishJob j found last).block i b
      = ((hd.setBlock j.site j.block ((hd.block j.site j.block).complete found)).settleSite j.site).block i b := by
    cases last <;> rfl
  rw [hsettled, Head.block_settleSite, Head.block_setBlock]

theorem Head.blocks_finishJob (hd : Head) (j : SolveJob) (found : Option Solution) (last : Bool) :
    (hd.finishJob j found last).blocks
      = (hd.setBlock j.site j.block ((hd.block j.site j.block).complete found)).blocks := by
  unfold Head.finishJob Head.settleSite
  split_ifs <;> rfl

theorem Head.site_finishJob (hd : Head) (j : SolveJob) (found : Option Solution) (last : Bool) (i : SiteId) :
    (hd.finishJob j found last).site i
      = ((hd.setBlock j.site j.block ((hd.block j.site j.block).complete found)).settleSite j.site).site i := by
  cases last <;> rfl

theorem Head.site_settleSite_ne (hd : Head) {i j : SiteId} (hj : j ≠ i) : (hd.settleSite i).site j = hd.site j := by
  unfold Head.settleSite
  split_ifs
  · rfl
  · rw [Head.site_finalise, if_neg (by simp [hj])]

theorem Head.site_settleSite_of_left {hd : Head} {i : SiteId} (hleft : ∃ c, (hd.block i c).state = .queued) (j : SiteId) :
    (hd.settleSite i).site j = hd.site j := by
  have hq : hd.hasQueued i = true := by
    rw [← Bool.not_eq_false, Head.hasQueued_eq_false_iff]
    obtain ⟨c, hc⟩ := hleft
    exact fun hnone => hnone c hc
  unfold Head.settleSite
  rw [if_pos hq]

/-- A site without a block left in QUEUED is made final by the verdict order (R50, R58). -/
theorem Head.site_settleSite_of_none {hd : Head} {i : SiteId} (hnone : ∀ c, (hd.block i c).state ≠ .queued)
    (hopen : (hd.site i).verdict.isFinal = false) :
    (hd.settleSite i).site i = { hd.site i with verdict := verdictOf (hd.site i) hd.blocks[i] } := by
  have hq : ¬ hd.hasQueued i = true := by rw [(Head.hasQueued_eq_false_iff hd i).mpr hnone]; nofun
  unfold Head.settleSite
  rw [if_neg hq, Head.site_finalise, if_pos (by simp [hopen])]

theorem Block.complete_state_ne_queued (b : Block) (found : Option Solution) : (b.complete found).state ≠ .queued := by
  cases found <;> simp [Block.complete, Block.applySolution, Block.reject]

/-- The blocks of a job's head, its own block being out of QUEUED: another block of the site keeps the site open. -/
theorem Head.left_setBlock_iff (hd : Head) (j : SolveJob) (found : Option Solution) :
    (∃ c, ((hd.setBlock j.site j.block ((hd.block j.site j.block).complete found)).block j.site c).state = .queued)
      ↔ ∃ c, c ≠ j.block ∧ (hd.block j.site c).state = .queued := by
  refine exists_congr fun c => ?_
  rw [Head.block_setBlock]
  by_cases hc : c = j.block
  · simp [hc, Block.complete_state_ne_queued]
  · simp [hc]

/-! ### The completion -/

theorem exec_solveJobCompletion_of_passes {s : State} {j : SolveJob} {found : Option Solution} {overtaken : Bool}
    (hengine : s.engine = .job j found overtaken)
    (hpass : ({ s with engine := .idle } : State).jobPasses j overtaken = true) :
    exec .solveJobCompletion s = .next (({ s with engine := .idle } : State).applyJob j found) := by
  change execSolveJobCompletion s = _
  unfold execSolveJobCompletion
  rw [hengine]
  exact if_pos hpass

theorem exec_solveJobCompletion_of_not_passes {s : State} {j : SolveJob} {found : Option Solution} {overtaken : Bool}
    (hengine : s.engine = .job j found overtaken)
    (hpass : ¬ ({ s with engine := .idle } : State).jobPasses j overtaken = true) :
    exec .solveJobCompletion s = .next { s with engine := .idle } := by
  change execSolveJobCompletion s = _
  unfold execSolveJobCompletion
  rw [hengine]
  exact if_neg hpass

/-- A head's last job ends with SEGMENT_DONE; another changes its head alone (R140). -/
theorem State.applyJob_of_last {s : State} {j : SolveJob} (found : Option Solution)
    (hlast : ∀ k ∈ s.solveList, k.head ≠ j.head) :
    s.Raised (s.applyJob j found) j.head .segmentDone ((s.head j.head).finishJob j found true) := by
  have hkeep : ∀ hd : Head, (hd.finishJob j found true).events = hd.events ∧ (hd.finishJob j found true).mask = hd.mask :=
    fun hd => by
      rw [Head.finishJob_frame]
      exact ⟨rfl, rfl⟩
  rw [State.applyJob_eq, if_neg (by simpa using hlast)]
  exact s.raised_updHead j.head .segmentDone (fun hd => hd.finishJob j found true) (hkeep _).1 (hkeep _).2

theorem State.applyJob_of_not_last {s : State} {j : SolveJob} (found : Option Solution)
    (hmore : ¬ ∀ k ∈ s.solveList, k.head ≠ j.head) :
    s.applyJob j found = s.updHead j.head (fun hd => hd.finishJob j found false) := by
  rw [State.applyJob_eq, if_pos (by simpa using hmore)]

/-- What the completion of a job does, for a head's last job and for another (R140). -/
theorem State.applyJob_spec (s : State) (j : SolveJob) (found : Option Solution) :
    s.onlyHead (s.applyJob j found) j.head
      ∧ s.applyJob j found = { s with heads := (s.applyJob j found).heads, upstream := (s.applyJob j found).upstream }
      ∧ (s.applyJob j found).upstream = s.upstream ++ (if ∀ k ∈ s.solveList, k.head ≠ j.head then
          s.noticesFor j.head .segmentDone (s.head j.head) ((s.applyJob j found).head j.head) 0 else [])
      ∧ (s.applyJob j found).head j.head
        = { (s.head j.head).finishJob j found (decide (∀ k ∈ s.solveList, k.head ≠ j.head)) with
            events := if ∀ k ∈ s.solveList, k.head ≠ j.head then (s.head j.head).events ||| HeadEvent.segmentDone.bit
              else (s.head j.head).events } := by
  by_cases hlast : ∀ k ∈ s.solveList, k.head ≠ j.head
  · have hraised := State.applyJob_of_last found hlast
    rw [if_pos hlast, if_pos hlast, decide_eq_true hlast]
    refine ⟨hraised.onlyHead, hraised.frame, hraised.upstream, ?_⟩
    rw [hraised.head, Head.finishJob_frame]
  · rw [if_neg hlast, if_neg hlast, decide_eq_false hlast, State.applyJob_of_not_last found hlast, List.append_nil]
    refine ⟨State.onlyHead_updHead s _ _, rfl, rfl, ?_⟩
    rw [State.head_updHead_self, Head.finishJob_frame]

/-- Settles O46: the check, and then the job's head as `Head.finishJob` leaves it, with SEGMENT_DONE for the last one. -/
theorem solveJobCompletionSettlesTheBlock : Obligations.SolveJobCompletionSettlesTheBlock := by
  intro s j found overtaken hengine h hd b passes last left
  let u : State := { s with engine := .idle }
  have hcheck : u.jobPasses j overtaken = true ↔ passes := by
    rw [State.jobPasses_iff, and_left_comm]
    exact Iff.rfl
  by_cases hpass : passes
  case neg =>
    exact ⟨_, exec_solveJobCompletion_of_not_passes hengine (mt hcheck.mp hpass), fun _ => rfl, fun hp => absurd hp hpass⟩
  obtain ⟨honly, hframe, hup, hhead⟩ := u.applyJob_spec j found
  have hexec := exec_solveJobCompletion_of_passes hengine (hcheck.mpr hpass)
  generalize u.applyJob j found = t at *
  have hblock (i c) : (t.head h).block i c = if i = j.site ∧ c = j.block then b.complete found else hd.block i c := by
    rw [hhead, Head.block_set_events]
    exact hd.block_finishJob j found _ i c
  have hsite (i) : (t.head h).site i = ((hd.setBlock j.site j.block (b.complete found)).settleSite j.site).site i := by
    rw [hhead, Head.site_set_events]
    exact hd.site_finishJob j found _ i
  refine ⟨t, hexec, fun hn => absurd hpass hn, fun _ => ⟨honly, hframe, hup, ?_, fun i c hne => ?_, ?_, fun i hi => ?_,
    fun hleft => ?_, fun hnone hopen => ?_⟩⟩
  · rw [hhead, Head.finishJob_frame]
    simp only [decide_eq_true_eq]
    rfl
  · rw [hblock, if_neg (by tauto)]
  · rw [hblock, if_pos ⟨rfl, rfl⟩]
    cases found <;> rfl
  · rw [hsite, Head.site_settleSite_ne _ hi, Head.site_setBlock]
  · rw [hsite, Head.site_settleSite_of_left ((hd.left_setBlock_iff j found).mpr hleft), Head.site_setBlock]
  · have hclosed := mt (hd.left_setBlock_iff j found).mp hnone
    have hblocks : (t.head h).blocks = (hd.setBlock j.site j.block (b.complete found)).blocks := by
      rw [hhead]
      exact hd.blocks_finishJob j found _
    rw [hsite, Head.site_settleSite_of_none (not_exists.mp hclosed) hopen, hblocks]
    rfl

end Sys2Proof.Machine
end

section
/-! The must-repair analysis, step by step: the item's own lines, the cascade and the bound test (7.4). -/

namespace Sys2Proof.Machine

/-! ### The first must line of a rescan (R128) -/

/-- A line is the first must line of a rescan of the fail list: that of the first entry in list order with a must line,
its row before its column line. -/
def Block.FirstMust (g : Geometry) (x : Block) (l : Line) : Prop :=
  ∃ pre e post, x.fails = pre ++ e :: post
    ∧ (∀ k ∈ pre, ¬ x.must g (.row k.row) = true ∧ ¬ x.must g (.col k.col) = true)
    ∧ (l = .row e.row ∨ l = .col e.col ∧ ¬ x.must g (.row e.row) = true) ∧ x.must g l = true

/-- The search of a list finds the first of its entries with a must line. -/
theorem Block.firstMust_split {g : Geometry} {x : Block} {fails : List FailListEntry} {l : Line}
    (h : x.firstMust g fails = some l) : ∃ pre e post, fails = pre ++ e :: post
      ∧ (∀ k ∈ pre, ¬ x.must g (.row k.row) = true ∧ ¬ x.must g (.col k.col) = true)
      ∧ (l = .row e.row ∨ l = .col e.col ∧ ¬ x.must g (.row e.row) = true) ∧ x.must g l = true := by
  induction fails with
  | nil => cases h
  | cons e rest ih =>
    unfold Block.firstMust at h
    split_ifs at h with hrow hcol
    · cases h
      exact ⟨[], e, rest, rfl, by simp, .inl rfl, hrow⟩
    · cases h
      exact ⟨[], e, rest, rfl, by simp, .inr ⟨rfl, hrow⟩, hcol⟩
    · obtain ⟨pre, e', post, hsplit, hpre, hl⟩ := ih h
      refine ⟨e :: pre, e', post, by rw [hsplit]; rfl, fun k hk => ?_, hl⟩
      rcases List.mem_cons.mp hk with rfl | hk
      · exact ⟨hrow, hcol⟩
      · exact hpre k hk

theorem Block.firstMust_of_some {g : Geometry} {x : Block} {l : Line} (h : x.firstMust g x.fails = some l) :
    x.FirstMust g l := Block.firstMust_split h

theorem Block.not_firstMust_of_none {g : Geometry} {x : Block} (h : x.firstMust g x.fails = none) (l : Line) :
    ¬ x.FirstMust g l := by
  rintro ⟨pre, e, post, hsplit, -, hl, hmust⟩
  obtain ⟨hrow, hcol⟩ := Block.firstMust_none h e (by simp [hsplit])
  rcases hl with rfl | ⟨rfl, -⟩
  · simp [hrow] at hmust
  · simp [hcol] at hmust

/-! ### Commitments -/

/-- The block with lines committed, one after another (R126). -/
def Block.commits (b : Block) (lines : List Line) : Block := lines.foldl Block.commit b

theorem Block.commits_append (b : Block) (l m : List Line) : b.commits (l ++ m) = (b.commits l).commits m :=
  List.foldl_append

theorem Block.commit_state (b : Block) (l : Line) : (b.commit l).state = b.state := by cases l <;> rfl

theorem Block.commits_state (b : Block) (lines : List Line) : (b.commits lines).state = b.state := by
  induction lines generalizing b with
  | nil => rfl
  | cons l lines ih => exact (ih _).trans (b.commit_state l)

/-- The row that a line is, if it is one. -/
def Line.row? : Line → Option Nat
  | .row r => some r
  | .col _ => none

/-- The column line that a line is, if it is one. -/
def Line.col? : Line → Option Nat
  | .row _ => none
  | .col c => some c

theorem Block.commits_rows (b : Block) (lines : List Line) : (b.commits lines).rows = b.rows ++ lines.filterMap Line.row? := by
  induction lines generalizing b with
  | nil => simp [Block.commits]
  | cons l lines ih =>
    refine (ih (b.commit l)).trans ?_
    cases l <;> simp [Block.commit, Line.row?, List.filterMap_cons]

theorem Block.commits_cols (b : Block) (lines : List Line) : (b.commits lines).cols = b.cols ++ lines.filterMap Line.col? := by
  induction lines generalizing b with
  | nil => simp [Block.commits]
  | cons l lines ih =>
    refine (ih (b.commit l)).trans ?_
    cases l <;> simp [Block.commit, Line.col?, List.filterMap_cons]

theorem Processing.not_rejected {p : Processing} (hstate : p.block.state = .collecting) : p.rejected = false := by
  simp [Processing.rejected, hstate]

/-! ### The cascade (R128) -/

/-- What the cascade commits on a block, and what it makes of the block: each line is the first must line of its rescan and
has a spare, until no must line is left, or one without a spare makes the block UNREPAIRABLE. -/
def Block.Cascades (g : Geometry) (b : Block) (more : List Line) (final : Block) : Prop :=
  (∀ pre l post, more = pre ++ l :: post → (b.commits pre).FirstMust g l ∧ (b.commits pre).spareFor g l = true)
    ∧ ((∀ l, ¬ (b.commits more).FirstMust g l) ∧ final = b.commits more
      ∨ ∃ l, (b.commits more).FirstMust g l ∧ ¬ (b.commits more).spareFor g l = true ∧ final = (b.commits more).reject)

theorem Block.Cascades.cons {g : Geometry} {b : Block} {l : Line} {more : List Line} {final : Block}
    (hfirst : b.FirstMust g l) (hspare : b.spareFor g l = true) (h : (b.commit l).Cascades g more final) :
    b.Cascades g (l :: more) final := by
  refine ⟨fun pre l' post hsplit => ?_, h.2⟩
  cases pre with
  | nil =>
    obtain ⟨rfl, -⟩ := List.cons.inj hsplit
    exact ⟨hfirst, hspare⟩
  | cons k pre =>
    obtain ⟨rfl, hrest⟩ := List.cons.inj hsplit
    exact h.1 pre l' post hrest

theorem Processing.cascade_cascades (g : Geometry) (n : Nat) (p : Processing) (hstate : p.block.state = .collecting)
    (hn : p.block.rowsLeft g + p.block.colsLeft g < n) :
    ∃ more, (Processing.cascade g n p).committed = p.committed ++ more
      ∧ p.block.Cascades g more (Processing.cascade g n p).block := by
  induction n generalizing p with
  | zero => exact absurd hn (Nat.not_lt_zero _)
  | succ n ih =>
    cases hscan : p.block.firstMust g p.block.fails with
    | none =>
      have hdone : Processing.cascade g (n + 1) p = p := by simp only [Processing.cascade, hscan]
      rw [hdone]
      exact ⟨[], (List.append_nil _).symm, by simp, .inl ⟨Block.not_firstMust_of_none hscan, rfl⟩⟩
    | some l =>
      have hstep : Processing.cascade g (n + 1) p
          = if (p.test g l).rejected then p.test g l else Processing.cascade g n (p.test g l) := by
        simp only [Processing.cascade, hscan]
      have hfirst := Block.firstMust_of_some hscan
      rcases p.test_cases g l with ⟨hm, -⟩ | ⟨-, hspare, he⟩ | ⟨-, hspare, he⟩
      · exact absurd (Block.firstMust_some hscan) (by simp [hm])
      · have hcollecting : (p.block.commit l).state = .collecting := (p.block.commit_state l).trans hstate
        have hleft := Block.sparesLeft_commit hspare
        rw [hstep, he, if_neg (by simp [Processing.not_rejected (p := ⟨p.block.commit l, _⟩) hcollecting])]
        obtain ⟨more, hmore, hcascade⟩ := ih ⟨p.block.commit l, p.committed ++ [l]⟩ hcollecting (by dsimp only; omega)
        exact ⟨l :: more, by rw [hmore]; simp, hcascade.cons hfirst hspare⟩
      · rw [hstep, he, if_pos ((Processing.rejected_iff _).mpr rfl)]
        exact ⟨[], (List.append_nil _).symm, by simp, .inr ⟨l, hfirst, by simp [Block.commits, hspare], rfl⟩⟩

/-! ### The analysis (R127 to R129) -/

/-- The block after the bound test (R129). -/
def Block.bounded (g : Geometry) (b : Block) : Block :=
  if 2 * b.rowsLeft g * b.colsLeft g < b.fails.length then b.reject else b

theorem Processing.bound_eq (g : Geometry) (p : Processing) : p.bound g = ⟨p.block.bounded g, p.committed⟩ := by
  unfold Processing.bound Block.bounded
  split_ifs <;> rfl

/-- The lines that the analysis of a block with an appended item commits, and the block it leaves: the item's own row, its
own column line, and, when one of these was committed, the cascade; the bound test at the end. -/
def Block.Analysed (g : Geometry) (b0 : Block) (row col : Nat) (lines : List Line) (final : Block) : Prop :=
  (b0.must g (.row row) = true → ¬ b0.spareFor g (.row row) = true → lines = [] ∧ final = b0.reject)
  ∧ ∀ own1, (b0.must g (.row row) = true → b0.spareFor g (.row row) = true ∧ own1 = [.row row]) →
    (¬ b0.must g (.row row) = true → own1 = []) →
    ((b0.commits own1).must g (.col col) = true → ¬ (b0.commits own1).spareFor g (.col col) = true →
      lines = own1 ∧ final = (b0.commits own1).reject)
    ∧ ∀ own, ((b0.commits own1).must g (.col col) = true →
        (b0.commits own1).spareFor g (.col col) = true ∧ own = own1 ++ [.col col]) →
      (¬ (b0.commits own1).must g (.col col) = true → own = own1) →
      (own = [] → lines = [] ∧ final = b0.bounded g)
      ∧ (own ≠ [] → ∃ more, lines = own ++ more
        ∧ (∀ pre l post, more = pre ++ l :: post →
          ((b0.commits own).commits pre).FirstMust g l ∧ ((b0.commits own).commits pre).spareFor g l = true)
        ∧ (((∀ l, ¬ ((b0.commits own).commits more).FirstMust g l)
            ∧ final = ((b0.commits own).commits more).bounded g)
          ∨ ∃ l, ((b0.commits own).commits more).FirstMust g l ∧ ¬ ((b0.commits own).commits more).spareFor g l = true
            ∧ final = ((b0.commits own).commits more).reject))

/-- The processing of lines so far, on a block that is still COLLECTING. -/
def Block.processed (b0 : Block) (lines : List Line) : Processing := ⟨b0.commits lines, lines⟩

theorem Block.processed_rejected {b0 : Block} (hstate : b0.state = .collecting) (lines : List Line) :
    (b0.processed lines).rejected = false :=
  Processing.not_rejected ((b0.commits_state lines).trans hstate)

theorem Block.processed_commit (b0 : Block) (lines : List Line) (l : Line) :
    (⟨(b0.commits lines).commit l, lines ++ [l]⟩ : Processing) = b0.processed (lines ++ [l]) := by
  rw [Block.processed, Block.commits_append]
  rfl

/-- The analysis when a test of the own lines has made the block UNREPAIRABLE: it ends there (R126, R127). -/
theorem Processing.settle_of_rejected {g : Geometry} {p : Processing} {row col : Nat}
    (hrej : (p.ownLines g row col).rejected = true) : p.settle g row col = p.ownLines g row col := by
  unfold Processing.settle
  simp [hrej]

/-- The analysis when the own lines committed nothing: the bound test follows at once (R128, R129). -/
theorem Processing.settle_of_none {g : Geometry} {b0 : Block} {row col : Nat} (hstate : b0.state = .collecting)
    (hown : (b0.processed []).ownLines g row col = b0.processed []) :
    (b0.processed []).settle g row col = ⟨b0.bounded g, []⟩ := by
  have hcommitted : (b0.processed []).committed = [] := rfl
  unfold Processing.settle
  simp only [hown, hcommitted, List.isEmpty_nil, Bool.not_true, Bool.and_false, Bool.false_eq_true, if_false,
    Block.processed_rejected hstate, Processing.bound_eq]
  rfl

/-- The analysis when the own lines committed some: the cascade, and the bound test when the block is still COLLECTING
(R128, R129). -/
theorem Processing.settle_of_some {g : Geometry} {b0 : Block} {row col : Nat} {own : List Line}
    (hstate : b0.state = .collecting) (hown : (b0.processed []).ownLines g row col = b0.processed own) (hne : own ≠ []) :
    ∃ more, ((b0.processed []).settle g row col).committed = own ++ more
      ∧ (∀ pre l post, more = pre ++ l :: post →
          ((b0.commits own).commits pre).FirstMust g l ∧ ((b0.commits own).commits pre).spareFor g l = true)
      ∧ (((∀ l, ¬ ((b0.commits own).commits more).FirstMust g l)
          ∧ ((b0.processed []).settle g row col).block = ((b0.commits own).commits more).bounded g)
        ∨ ∃ l, ((b0.commits own).commits more).FirstMust g l ∧ ¬ ((b0.commits own).commits more).spareFor g l = true
          ∧ ((b0.processed []).settle g row col).block = ((b0.commits own).commits more).reject) := by
  have hcollecting : (b0.processed own).block.state = .collecting := (b0.commits_state own).trans hstate
  obtain ⟨more, hmore, hfirst, hend⟩ := Processing.cascade_cascades g (g.sr + g.sc + 1) (b0.processed own) hcollecting
    (Nat.lt_succ_of_le (Nat.add_le_add (Nat.sub_le _ _) (Nat.sub_le _ _)))
  have hsettle : (b0.processed []).settle g row col
      = if ((b0.processed own).cascade g (g.sr + g.sc + 1)).rejected then (b0.processed own).cascade g (g.sr + g.sc + 1)
        else ((b0.processed own).cascade g (g.sr + g.sc + 1)).bound g := by
    have hcommitted : (b0.processed own).committed = own := rfl
    unfold Processing.settle
    simp only [hown, Block.processed_rejected hstate, hcommitted, List.isEmpty_eq_false_iff.mpr hne, Bool.not_false,
      Bool.and_self, if_true]
  rw [hsettle]
  generalize (b0.processed own).cascade g (g.sr + g.sc + 1) = p at *
  have hblock : (b0.processed own).block = b0.commits own := rfl
  rw [hblock] at hfirst hend
  refine ⟨more, ?_, hfirst, ?_⟩
  · rw [Processing.bound_eq]
    split_ifs <;> exact hmore
  · rcases hend with ⟨hnone, hfinal⟩ | ⟨l, hl, hspare, hfinal⟩
    · have hstate' : p.block.state = .collecting := by
        rw [hfinal, Block.commits_state]
        exact hcollecting
      rw [if_neg (by simp [Processing.not_rejected hstate']), Processing.bound_eq, hfinal]
      exact .inl ⟨hnone, rfl⟩
    · rw [if_pos ((Processing.rejected_iff p).mpr (by rw [hfinal]; rfl)), hfinal]
      exact .inr ⟨l, hl, hspare, rfl⟩

/-- The own column line, after the own row was tested (R127). -/
theorem Processing.settle_own {g : Geometry} {b0 : Block} {row col : Nat} {own1 : List Line}
    (hstate : b0.state = .collecting) (hrow : (b0.processed []).test g (.row row) = b0.processed own1) :
    (b0.processed []).ownLines g row col = (b0.processed own1).test g (.col col) := by
  unfold Processing.ownLines
  simp only [hrow, Block.processed_rejected hstate, Bool.false_eq_true, if_false]

/-- What the own column line makes of the block, after the own row was tested (R127). -/
theorem Processing.settle_col {g : Geometry} {b0 : Block} {row col : Nat} {own1 : List Line}
    (hstate : b0.state = .collecting) (hrow : (b0.processed []).test g (.row row) = b0.processed own1) :
    ((b0.commits own1).must g (.col col) = true → ¬ (b0.commits own1).spareFor g (.col col) = true →
      (b0.processed []).settle g row col = ⟨(b0.commits own1).reject, own1⟩)
    ∧ ∀ own, ((b0.commits own1).must g (.col col) = true →
        (b0.commits own1).spareFor g (.col col) = true ∧ own = own1 ++ [.col col]) →
      (¬ (b0.commits own1).must g (.col col) = true → own = own1) →
      (b0.processed []).ownLines g row col = b0.processed own := by
  have hown := Processing.settle_own (col := col) hstate hrow
  rcases (b0.processed own1).test_cases g (.col col) with ⟨hm, he⟩ | ⟨hm, hs, he⟩ | ⟨hm, hs, he⟩
  all_goals
    change (b0.commits own1).must g (.col col) = _ at hm
    rw [hown, he, hm]
  · exact ⟨nofun, fun own _ hsame => by rw [hsame Bool.false_ne_true]⟩
  · change (b0.commits own1).spareFor g (.col col) = true at hs
    refine ⟨fun _ hno => absurd hs hno, fun own hcommit _ => ?_⟩
    rw [(hcommit rfl).2]
    exact b0.processed_commit own1 (.col col)
  · change (b0.commits own1).spareFor g (.col col) = false at hs
    refine ⟨fun _ _ => ?_, fun own hcommit _ => absurd (hcommit rfl).1 (by simp [hs])⟩
    rw [Processing.settle_of_rejected ((Processing.rejected_iff _).mpr (by rw [hown, he]; rfl)), hown, he]
    rfl

/-- The must-repair analysis is made of its three parts (R127 to R129). -/
theorem Processing.settle_analysed {g : Geometry} {b0 : Block} {row col : Nat} (hstate : b0.state = .collecting) :
    b0.Analysed g row col ((b0.processed []).settle g row col).committed ((b0.processed []).settle g row col).block := by
  have hrest (own1 : List Line) (hrow : (b0.processed []).test g (.row row) = b0.processed own1) :=
    Processing.settle_col (col := col) hstate hrow
  refine ⟨fun hmust hspare => ?_, fun own1 hcommit hsame => ?_⟩
  · rcases (b0.processed []).test_cases g (.row row) with ⟨hm, -⟩ | ⟨-, hs, -⟩ | ⟨-, -, he⟩
    · exact absurd (hm.symm.trans hmust) Bool.false_ne_true
    · exact absurd hs hspare
    · have hown : (b0.processed []).ownLines g row col = ⟨b0.reject, []⟩ := by
        unfold Processing.ownLines
        rw [he]
        exact if_pos ((Processing.rejected_iff _).mpr rfl)
      rw [Processing.settle_of_rejected ((Processing.rejected_iff _).mpr (by rw [hown]; rfl)), hown]
      exact ⟨rfl, rfl⟩
  · have hrow : (b0.processed []).test g (.row row) = b0.processed own1 := by
      rcases (b0.processed []).test_cases g (.row row) with ⟨hm, he⟩ | ⟨hm, -, he⟩ | ⟨hm, hs, -⟩
      · change b0.must g (.row row) = false at hm
        rw [he, hsame (by simp [hm])]
      · rw [he, (hcommit hm).2]
        rfl
      · exact absurd ((hcommit hm).1.symm.trans hs) (by simp)
    obtain ⟨hreject, hown⟩ := hrest own1 hrow
    refine ⟨fun hmust hspare => ?_, fun own hcommit2 hsame2 => ⟨fun hnone => ?_, fun hne => ?_⟩⟩
    · rw [hreject hmust hspare]
      exact ⟨rfl, rfl⟩
    · have hnothing := hown own hcommit2 hsame2
      rw [hnone] at hnothing
      rw [Processing.settle_of_none hstate hnothing]
      exact ⟨rfl, rfl⟩
    · exact Processing.settle_of_some hstate (hown own hcommit2 hsame2) hne

/-! ### What the analysis leaves of the block (R126, R130) -/

/-- The committed lines of a processing are those that joined the lists of its block, which is COLLECTING or
UNREPAIRABLE. -/
structure Processing.Follows (b0 : Block) (p : Processing) : Prop where
  rows : p.block.rows = b0.rows ++ p.committed.filterMap Line.row?
  cols : p.block.cols = b0.cols ++ p.committed.filterMap Line.col?
  state : p.block.state = .collecting ∨ p.block.state = .unrepairable

theorem Processing.Follows.test {b0 : Block} {p : Processing} (h : p.Follows b0) (g : Geometry) (l : Line) :
    (p.test g l).Follows b0 := by
  rcases p.test_cases g l with ⟨-, he⟩ | ⟨-, -, he⟩ | ⟨-, -, he⟩
  · rwa [he]
  · rw [he]
    refine ⟨?_, ?_, by rw [Block.commit_state]; exact h.state⟩
    · rw [List.filterMap_append, ← List.append_assoc, ← h.rows]
      exact p.block.commits_rows [l]
    · rw [List.filterMap_append, ← List.append_assoc, ← h.cols]
      exact p.block.commits_cols [l]
  · rw [he]
    exact ⟨h.rows, h.cols, .inr rfl⟩

theorem Processing.Follows.cascade {b0 : Block} (g : Geometry) (n : Nat) {p : Processing} (h : p.Follows b0) :
    (Processing.cascade g n p).Follows b0 := by
  induction n generalizing p with
  | zero => exact h
  | succ n ih =>
    unfold Processing.cascade
    split
    · exact h
    · dsimp only
      split_ifs
      · exact h.test g _
      · exact ih (h.test g _)

theorem Processing.Follows.bound {b0 : Block} (g : Geometry) {p : Processing} (h : p.Follows b0) : (p.bound g).Follows b0 := by
  unfold Processing.bound
  split_ifs
  · exact ⟨h.rows, h.cols, .inr rfl⟩
  · exact h

theorem Processing.Follows.ownLines {b0 : Block} (g : Geometry) {p : Processing} (h : p.Follows b0) (row col : Nat) :
    (p.ownLines g row col).Follows b0 := by
  unfold Processing.ownLines
  dsimp only
  split_ifs
  · exact h.test g _
  · exact (h.test g _).test g _

theorem Processing.Follows.settle {b0 : Block} (g : Geometry) {p : Processing} (h : p.Follows b0) (row col : Nat) :
    (p.settle g row col).Follows b0 := by
  have hown := h.ownLines g row col
  unfold Processing.settle
  dsimp only
  split_ifs
  exacts [hown.cascade g _, (hown.cascade g _).bound g, hown, hown.bound g]

end Sys2Proof.Machine
end

section
/-! The completion of a fail item: its block, the log, the REJECT stop, and the drain test (7.2, 7.5, 9.1). -/

namespace Sys2Proof.Machine

/-! ### Log entries (R131, R150) -/

/-- A head that takes log entries: as many as find room join the log, and the rest is dropped with the overrun flag set and
LOG_OVERRUN in the event set (R150). -/
def Head.appended (hd : Head) (es : List LogEntry) : Head :=
  { hd with
    log := hd.log ++ es.take (256 - hd.log.length)
    overrun := hd.overrun || decide (256 - hd.log.length < es.length)
    events := hd.events ||| (if decide (256 - hd.log.length < es.length) = true then HeadEvent.logOverrun.bit else 0) }

/-- The head as the notice of LOG_OVERRUN shows it. -/
def Head.overran (hd : Head) : Head := { hd with events := hd.events ||| HeadEvent.logOverrun.bit }

/-- Appending log entries to a head changes it, and makes at most the one notice of LOG_OVERRUN. -/
structure State.Appended (s t : State) (h : HeadId) (es : List LogEntry) : Prop where
  frame : t = { s with heads := t.heads, upstream := t.upstream }
  head : t.head h = (s.head h).appended es
  upstream : t.upstream = s.upstream
    ++ if decide (256 - (s.head h).log.length < es.length) = true then
        s.noticesFor h .logOverrun (s.head h) (s.head h).overran 0 else []

theorem State.appendLog_of_room {s : State} {h : HeadId} (e : LogEntry) (hroom : (s.head h).log.length < 256) :
    s.appendLog h e = s.updHead h (fun hd => { hd with log := hd.log ++ [e] }) := if_pos hroom

theorem State.appendLog_of_full {s : State} {h : HeadId} (e : LogEntry) (hfull : 256 ≤ (s.head h).log.length) :
    s.appendLog h e = (s.updHead h (fun hd => { hd with overrun := true })).raise h .logOverrun :=
  if_neg (not_lt.mpr hfull)

theorem HeadEvent.isIn_or_self (e : HeadEvent) (set : BitVec 8) : e.isIn (set ||| e.bit) = true := by
  rw [HeadEvent.isIn_or_bit]
  simp

/-- An event that is set makes no notice (R153). -/
theorem State.noticesFor_of_isIn {s : State} {h : HeadId} {e : HeadEvent} {before : Head} (hin : e.isIn before.events = true)
    (after : Head) (n : Nat) : s.noticesFor h e before after n = [] :=
  if_neg fun hc => by simp [hin] at hc

theorem Head.appended_of_room {hd : Head} (e : LogEntry) (es : List LogEntry) (hroom : hd.log.length < 256) :
    ({ hd with log := hd.log ++ [e] } : Head).appended es = hd.appended (e :: es) := by
  obtain ⟨m, hm⟩ : ∃ m, 256 - hd.log.length = m + 1 := ⟨255 - hd.log.length, by omega⟩
  have hm' : 256 - (hd.log ++ [e]).length = m := by
    rw [List.length_append, List.length_singleton]
    omega
  simp only [Head.appended, hm, hm', List.take_succ_cons, List.append_assoc, List.singleton_append, List.length_cons,
    Nat.add_lt_add_iff_right]

theorem Head.appended_of_full {hd : Head} (e : LogEntry) (es : List LogEntry) (hfull : 256 ≤ hd.log.length) :
    ({ hd with overrun := true, events := hd.events ||| HeadEvent.logOverrun.bit } : Head).appended es
      = hd.appended (e :: es) := by
  have hm : 256 - hd.log.length = 0 := by omega
  have hbits (c : Bool) : hd.events ||| HeadEvent.logOverrun.bit ||| (if c then HeadEvent.logOverrun.bit else 0)
      = hd.events ||| HeadEvent.logOverrun.bit := by
    cases c
    · simp
    · exact HeadEvent.or_bit_of_isIn (HeadEvent.isIn_or_self _ _)
  simp only [Head.appended, hm, List.take_zero, hbits, Bool.true_or, List.length_cons, Nat.zero_lt_succ, decide_true,
    Bool.or_true, if_true]

theorem State.appended_logs (h : HeadId) (es : List LogEntry) (s : State) :
    s.Appended (es.foldl (fun t e => t.appendLog h e) s) h es := by
  induction es generalizing s with
  | nil => exact ⟨rfl, by simp [Head.appended], by simp⟩
  | cons e es ih =>
    obtain ⟨hframe, hhead, hup⟩ := ih (s.appendLog h e)
    rw [List.foldl_cons]
    generalize es.foldl (fun t e => t.appendLog h e) (s.appendLog h e) = t at *
    by_cases hroom : (s.head h).log.length < 256
    · rw [State.appendLog_of_room e hroom] at hframe hhead hup
      rw [State.head_updHead_self] at hhead hup
      refine ⟨hframe, hhead.trans (Head.appended_of_room e es hroom), hup.trans (congrArg (s.upstream ++ ·) ?_)⟩
      have hdrops : decide (256 - (s.head h).log.length < (e :: es).length)
          = decide (256 - ((s.head h).log ++ [e]).length < es.length) := by
        rw [List.length_append, List.length_singleton, List.length_cons]
        exact decide_eq_decide.mpr (by omega)
      rw [hdrops]
      rfl
    · have hfull := not_lt.mp hroom
      have hraised := s.raised_updHead h .logOverrun (fun hd => { hd with overrun := true }) rfl rfl
      rw [State.appendLog_of_full e hfull] at hframe hhead hup
      generalize (s.updHead h (fun hd => { hd with overrun := true })).raise h .logOverrun = u at *
      have hdrops : decide (256 - (s.head h).log.length < (e :: es).length) = true :=
        decide_eq_true (by rw [List.length_cons]; omega)
      refine ⟨?_, ?_, ?_⟩
      · rw [hframe, hraised.frame]
      · rw [hhead, hraised.head]
        exact Head.appended_of_full e es hfull
      · have hquiet : u.noticesFor h .logOverrun (u.head h) (u.head h).overran 0 = [] :=
          State.noticesFor_of_isIn (by rw [hraised.head]; exact HeadEvent.isIn_or_self _ _) _ _
        rw [hup, hquiet, ite_self, List.append_nil, hraised.upstream, if_pos hdrops, hraised.head]
        rfl

/-! ### The effects of an item (R118, R130) -/

/-- The block that an item's processing leaves. -/
def State.itemBlock (s : State) (it : FailItem) : Block :=
  (processItem (s.head it.head).geometry ((s.head it.head).block it.site it.block) it).1

/-- The head with the block that an item's processing leaves, and its log entries. -/
def State.itemHead (s : State) (it : FailItem) : Head :=
  ((s.head it.head).setBlock it.site it.block (s.itemBlock it)).appended (s.itemLog it)

/-- The state after the Block Record and the log entries of an item, before a REJECT stop. -/
def State.itemLogged (s : State) (it : FailItem) : State :=
  (s.itemLog it).foldl (fun t e => t.appendLog it.head e)
    (s.updHead it.head (fun hd => hd.setBlock it.site it.block (s.itemBlock it)))

theorem State.appended_itemLogged (s : State) (it : FailItem) :
    (s.updHead it.head (fun hd => hd.setBlock it.site it.block (s.itemBlock it))).Appended (s.itemLogged it) it.head
      (s.itemLog it) := State.appended_logs _ _ _

theorem State.head_itemLogged (s : State) (it : FailItem) : (s.itemLogged it).head it.head = s.itemHead it := by
  rw [(s.appended_itemLogged it).head, State.head_updHead_self]
  rfl

/-- Whether the processing of an item makes its site stop: the block became UNREPAIRABLE, under STOP_ON_REJECT, on a head
in TESTING or DRAINING, and the site is enabled (R54). -/
def State.itemStops (s : State) (it : FailItem) : Bool :=
  decide ((s.itemBlock it).state = .unrepairable) && (s.head it.head).setup.stopPolicy == .stopOnReject
    && ((s.head it.head).state == .testing || (s.head it.head).state == .draining)
    && ((s.head it.head).site it.site).enabled

theorem HeadState.collecting_iff (x : HeadState) : x.collecting = true ↔ x = .testing ∨ x = .draining := by
  cases x <;> simp [HeadState.collecting]

theorem State.itemStops_iff (s : State) (it : FailItem) : s.itemStops it = true
    ↔ (s.itemBlock it).state = .unrepairable ∧ ((s.head it.head).setup.stopPolicy = .stopOnReject
        ∧ (s.head it.head).state.collecting = true) ∧ ((s.head it.head).site it.site).enabled = true := by
  rw [HeadState.collecting_iff]
  simp [State.itemStops, and_assoc]

theorem State.applyItem_of_not_stops {s : State} {it : FailItem} (hno : s.itemStops it = false) :
    s.applyItem it = s.itemLogged it := by
  have hhead := s.head_itemLogged it
  have hno' : ¬ s.itemStops it = true := by simp [hno]
  rw [State.itemStops_iff] at hno'
  have happly : s.applyItem it
      = if (s.itemBlock it).state = .unrepairable then (s.itemLogged it).reportReject it else s.itemLogged it := rfl
  rw [happly]
  split_ifs with hrejected
  · unfold State.reportReject State.stopSite
    rw [hhead]
    split_ifs with hpolicy hlive
    · exact absurd ⟨hrejected, hpolicy, hlive.1⟩ hno'
    · rfl
    · rfl
  · rfl

theorem State.applyItem_of_stops {s : State} {it : FailItem} (hlive : ((s.head it.head).site it.site).stopped = false)
    (hstops : s.itemStops it = true) : (s.itemLogged it).Raised (s.applyItem it) it.head .siteStopped
      ((s.itemHead it).stopSite it.site .reject) := by
  have hhead := s.head_itemLogged it
  obtain ⟨hrejected, hpolicy, henabled⟩ := (s.itemStops_iff it).mp hstops
  have happly : s.applyItem it = (s.itemLogged it).stopSite it.head it.site .reject := by
    refine (if_pos hrejected).trans (if_pos ?_)
    change ((s.itemLogged it).head it.head).setup.stopPolicy = .stopOnReject
      ∧ ((s.itemLogged it).head it.head).state.collecting = true
    rw [hhead]
    exact hpolicy
  rw [happly, ← hhead]
  refine (s.itemLogged it).raised_stopSite it.head it.site .reject ?_ ?_
  · rw [hhead]
    exact henabled
  · rw [hhead]
    exact hlive

theorem State.noticesFor_congr {s t : State} {h : HeadId} {e : HeadEvent} {before before' : Head} (after : Head) (n : Nat)
    (hevents : e.isIn before'.events = e.isIn before.events) (hmask : before'.mask = before.mask) (hlink : t.link = s.link)
    (hup : t.upstream = s.upstream) (hres : t.reservations = s.reservations) (hexec : t.executing = s.executing) :
    t.noticesFor h e before' after n = s.noticesFor h e before after n := by
  unfold State.noticesFor
  rw [hevents, hmask, hlink, hup, hres, hexec]

/-- LOG_OVERRUN in the event set does not hide another event (R153). -/
theorem Head.siteStopped_isIn_appended (hd : Head) (es : List LogEntry) :
    HeadEvent.siteStopped.isIn (hd.appended es).events = HeadEvent.siteStopped.isIn hd.events := by
  unfold Head.appended
  cases decide (256 - hd.log.length < es.length) with
  | false => simp
  | true => simp [HeadEvent.isIn_or_bit]

/-- The notice of LOG_OVERRUN, when log entries of an item were dropped. -/
def State.itemNotices (s : State) (it : FailItem) : List UpFrame :=
  if decide (256 - (s.head it.head).log.length < (s.itemLog it).length) = true then
    s.noticesFor it.head .logOverrun (s.head it.head) (s.head it.head).overran 0
  else []

theorem State.upstream_itemLogged (s : State) (it : FailItem) :
    (s.itemLogged it).upstream = s.upstream ++ s.itemNotices it := by
  rw [(s.appended_itemLogged it).upstream, State.head_updHead_self]
  rfl

/-- What the effects of an item change (R118, R130). -/
theorem State.applyItem_spec {s : State} {it : FailItem} (hlive : ((s.head it.head).site it.site).stopped = false) :
    s.applyItem it = { s with heads := (s.applyItem it).heads, upstream := (s.applyItem it).upstream }
      ∧ (s.applyItem it).upstream = s.upstream ++ s.itemNotices it
        ++ (if s.itemStops it then { s with upstream := s.upstream ++ s.itemNotices it }.noticesFor it.head .siteStopped
          (s.head it.head) ((s.applyItem it).head it.head) 0 else [])
      ∧ (s.applyItem it).head it.head = if s.itemStops it then
          { (s.itemHead it).stopSite it.site .reject with events := (s.itemHead it).events ||| HeadEvent.siteStopped.bit }
        else s.itemHead it := by
  have hlogged := (s.appended_itemLogged it).frame
  have hup := s.upstream_itemLogged it
  by_cases hstops : s.itemStops it = true
  · have hraised := State.applyItem_of_stops hlive hstops
    have hhead := s.head_itemLogged it
    rw [if_pos hstops, if_pos hstops, ← hup]
    generalize s.applyItem it = t at *
    generalize s.itemLogged it = w at *
    refine ⟨?_, ?_, ?_⟩
    · rw [hraised.frame, hlogged]
      rfl
    · rw [hraised.upstream, hhead]
      refine congrArg (w.upstream ++ ·) (State.noticesFor_congr _ _ (Head.siteStopped_isIn_appended _ _) rfl ?_ rfl ?_ ?_)
      all_goals
        rw [hlogged]
        rfl
    · rw [hraised.head]
      rfl
  · rw [if_neg hstops, if_neg hstops, List.append_nil, State.applyItem_of_not_stops (Bool.eq_false_iff.mpr hstops), ← hup]
    refine ⟨?_, rfl, s.head_itemLogged it⟩
    generalize s.itemLogged it = w at *
    rw [hlogged]
    rfl

theorem Head.block_appended (hd : Head) (es : List LogEntry) (i : SiteId) (b : BlockId) :
    (hd.appended es).block i b = hd.block i b := rfl

theorem Head.site_appended (hd : Head) (es : List LogEntry) (i : SiteId) : (hd.appended es).site i = hd.site i := rfl

theorem State.block_itemHead (s : State) (it : FailItem) (i : SiteId) (c : BlockId) : (s.itemHead it).block i c
    = if i = it.site ∧ c = it.block then s.itemBlock it else (s.head it.head).block i c := by
  unfold State.itemHead
  rw [Head.block_appended, Head.block_setBlock]

theorem State.site_itemHead (s : State) (it : FailItem) (i : SiteId) : (s.itemHead it).site i = (s.head it.head).site i := by
  unfold State.itemHead
  rw [Head.site_appended, Head.site_setBlock]

theorem Block.stop_of_unrepairable {b : Block} (hb : b.state = .unrepairable) : b.stop = b := if_neg (by simp [hb])

/-- The blocks of the head after the effects of an item (R53, R118). -/
theorem State.block_applyItem {s : State} {it : FailItem} (hlive : ((s.head it.head).site it.site).stopped = false)
    (i : SiteId) (c : BlockId) : ((s.applyItem it).head it.head).block i c
      = if i = it.site ∧ c = it.block then s.itemBlock it
        else if s.itemStops it = true ∧ i = it.site ∧ ((s.head it.head).block i c).state = .collecting then
          { (s.head it.head).block i c with state := .stopped }
        else (s.head it.head).block i c := by
  obtain ⟨-, -, hhead⟩ := State.applyItem_spec hlive
  rw [hhead]
  by_cases hstops : s.itemStops it = true
  · obtain ⟨hrejected, -⟩ := (s.itemStops_iff it).mp hstops
    rw [if_pos hstops, Head.block_set_events, Head.block_stopSite, s.block_itemHead]
    by_cases hi : i = it.site
    · by_cases hc : c = it.block
      · simp [hi, hc, Block.stop_of_unrepairable hrejected]
      · simp [hi, hc, hstops, Block.stop_eq_ite]
    · simp [hi]
  · rw [if_neg hstops, s.block_itemHead]
    simp [hstops]

end Sys2Proof.Machine
end

section
/-! ITEM_COMPLETION: the check, the effects, and the drain test (7.2 to 7.5, 9.1). -/

namespace Sys2Proof.Machine

theorem State.site_applyItem {s : State} {it : FailItem} (hlive : ((s.head it.head).site it.site).stopped = false)
    (i : SiteId) : ((s.applyItem it).head it.head).site i
      = if s.itemStops it = true then ((s.itemHead it).stopSite it.site .reject).site i
        else (s.head it.head).site i := by
  obtain ⟨-, -, hhead⟩ := State.applyItem_spec hlive
  rw [hhead]
  split_ifs
  · rw [Head.site_set_events]
  · exact s.site_itemHead it i

/-- The head after the effects of an item, but for its blocks and its sites (R118). -/
theorem State.head_applyItem {s : State} {it : FailItem} (hlive : ((s.head it.head).site it.site).stopped = false) :
    (s.applyItem it).head it.head = { s.head it.head with
      blocks := ((s.applyItem it).head it.head).blocks, sites := ((s.applyItem it).head it.head).sites
      log := (s.head it.head).log ++ (s.itemLog it).take (256 - (s.head it.head).log.length)
      overrun := (s.head it.head).overrun || decide (256 - (s.head it.head).log.length < (s.itemLog it).length)
      events := (s.head it.head).events
        ||| (if decide (256 - (s.head it.head).log.length < (s.itemLog it).length) = true then HeadEvent.logOverrun.bit else 0)
        ||| (if s.itemStops it = true then HeadEvent.siteStopped.bit else 0) } := by
  obtain ⟨-, -, hhead⟩ := State.applyItem_spec hlive
  rw [hhead]
  cases s.itemStops it with
  | true =>
    rw [if_pos rfl, Head.stopSite_eq]
    rfl
  | false =>
    have hzero (x : BitVec 8) : x ||| 0 = x := BitVec.or_zero
    rw [if_neg Bool.false_ne_true, if_neg Bool.false_ne_true, hzero]
    rfl

/-- The verdict that a REJECT stop fixes (R54, R58). -/
theorem State.site_applyItem_of_stops {s : State} {it : FailItem} (hlive : ((s.head it.head).site it.site).stopped = false)
    (hstops : s.itemStops it = true) : ((s.applyItem it).head it.head).site it.site
      = { (s.head it.head).site it.site with
          stopped := true, stopReason := .reject
          verdict := if ((s.head it.head).site it.site).verdict.isFinal then ((s.head it.head).site it.site).verdict
            else .unrepairable } := by
  obtain ⟨-, -, henabled⟩ := (s.itemStops_iff it).mp hstops
  have hsite := s.site_itemHead it it.site
  rw [State.site_applyItem hlive, if_pos hstops, Head.site_stopSite_self, hsite]
  cases hfinal : ((s.head it.head).site it.site).verdict.isFinal with
  | true => rw [Head.verdict_stopSite_of_final _ _ _ (by rw [hsite, hfinal]), hsite, if_pos rfl]
  | false =>
    rw [Head.verdict_stopSite _ _ (by decide) (by rw [hsite, henabled]) (by rw [hsite, hfinal]), if_neg Bool.false_ne_true,
      if_pos (.inr (.inr (by decide)))]

/-! ### The log entries and the block (R123 to R131) -/

theorem loggingApplies_iff (logEnable : Bool) (mode : LogMode) (logFlag : Bool) : loggingApplies logEnable mode logFlag = true
    ↔ logEnable = true ∧ (mode = .always ∨ (mode = .onTrigger ∧ logFlag = true)) := by
  simp [loggingApplies]

theorem Block.covers_iff (b : Block) (row col : Nat) : b.covers row col = true ↔ row ∈ b.rows ∨ col ∈ b.cols := by
  simp [Block.covers]

theorem Block.lists_iff (b : Block) (row col : Nat) : b.lists row col = true ↔ ∃ e ∈ b.fails, e.row = row ∧ e.col = col := by
  simp [Block.lists]

theorem processItem_of_covered {g : Geometry} {b : Block} {it : FailItem} (hc : it.row ∈ b.rows ∨ it.col ∈ b.cols) :
    processItem g b it = ({ b with coveredHits := min (b.coveredHits + 1) 65535 }, []) :=
  if_pos ((b.covers_iff _ _).mpr hc)

theorem processItem_of_listed {g : Geometry} {b : Block} {it : FailItem} (hrow : it.row ∉ b.rows) (hcol : it.col ∉ b.cols)
    (hl : ∃ e ∈ b.fails, e.row = it.row ∧ e.col = it.col) :
    processItem g b it = ({ b with fails := b.fails.map (fun e =>
      if e.row = it.row ∧ e.col = it.col then { e with hits := min (e.hits + 1) 255 } else e) }, []) := by
  have hc : ¬ b.covers it.row it.col = true := by
    rw [b.covers_iff]
    exact not_or.mpr ⟨hrow, hcol⟩
  refine ((if_neg hc).trans (if_pos ((b.lists_iff _ _).mpr hl))).trans ?_
  simp only [Block.hitListed, Bool.and_eq_true, beq_iff_eq]
  rfl

theorem processItem_of_new {g : Geometry} {b : Block} {it : FailItem} (hrow : it.row ∉ b.rows) (hcol : it.col ∉ b.cols)
    (hl : ∀ e ∈ b.fails, ¬ (e.row = it.row ∧ e.col = it.col)) :
    processItem g b it = (((b.append it.row it.col it.vectorIndex).processed []).settle g it.row it.col |>.block,
      processingLog it (((b.append it.row it.col it.vectorIndex).processed []).settle g it.row it.col)) := by
  have hc : ¬ b.covers it.row it.col = true := by
    rw [b.covers_iff]
    exact not_or.mpr ⟨hrow, hcol⟩
  have hl' : ¬ b.lists it.row it.col = true := by
    rw [b.lists_iff]
    rintro ⟨e, he, hcell⟩
    exact hl e he hcell
  exact (if_neg hc).trans (if_neg hl')

theorem State.itemLog_eq (s : State) (it : FailItem) : s.itemLog it
    = if ((s.head it.head).site it.site).logEnable = true
        ∧ ((s.head it.head).setup.logMode = .always ∨ ((s.head it.head).setup.logMode = .onTrigger ∧ it.logFlag = true)) then
        (processItem (s.head it.head).geometry ((s.head it.head).block it.site it.block) it).2
      else [] :=
  if_congr (loggingApplies_iff _ _ _) rfl rfl

/-- The log entry of a line committed by an item (R131). -/
def FailItem.lineEntry (it : FailItem) : Line → LogEntry
  | .row r => ⟨.rowRepair, it.site, some it.block, some r, none, none, it.vectorIndex⟩
  | .col c => ⟨.colRepair, it.site, some it.block, none, some c, none, it.vectorIndex⟩

/-- A new cell is appended and put through the must-repair analysis (R125 to R131). -/
theorem processItem_analysed {g : Geometry} {b : Block} {it : FailItem} (hstate : b.state = .collecting)
    (hrow : it.row ∉ b.rows) (hcol : it.col ∉ b.cols) (hl : ∀ e ∈ b.fails, ¬ (e.row = it.row ∧ e.col = it.col)) :
    ∃ lines, (b.append it.row it.col it.vectorIndex).Analysed g it.row it.col lines (processItem g b it).1
      ∧ ((processItem g b it).1.state = .collecting ∨ (processItem g b it).1.state = .unrepairable)
      ∧ (processItem g b it).1.rows = b.rows ++ lines.filterMap Line.row?
      ∧ (processItem g b it).1.cols = b.cols ++ lines.filterMap Line.col?
      ∧ (processItem g b it).2
        = [⟨.firstFail, it.site, some it.block, some it.row, some it.col, none, it.vectorIndex⟩] ++ lines.map it.lineEntry
          ++ if (processItem g b it).1.state = .unrepairable then
              [⟨.blockReject, it.site, some it.block, some it.row, some it.col, none, it.vectorIndex⟩]
            else [] := by
  have hstart : (b.append it.row it.col it.vectorIndex).state = .collecting := hstate
  have hfollows := Processing.Follows.settle (b0 := b.append it.row it.col it.vectorIndex)
    (p := (b.append it.row it.col it.vectorIndex).processed []) g
    ⟨(List.append_nil _).symm, (List.append_nil _).symm, .inl hstart⟩ it.row it.col
  rw [processItem_of_new hrow hcol hl]
  refine ⟨_, Processing.settle_analysed hstart, hfollows.state, hfollows.rows, hfollows.cols, ?_⟩
  exact congrArg₂ (· ++ ·) rfl (if_congr (Processing.rejected_iff _) rfl rfl)

/-! ### The completion (R118) -/

/-- The engine is idle, and the item's effects are made when its check passes. -/
def State.itemEffects (s : State) (it : FailItem) (overtaken : Bool) : State :=
  if !overtaken && ({ s with engine := .idle } : State).dequeuePasses it then ({ s with engine := .idle } : State).applyItem it
  else { s with engine := .idle }

theorem exec_itemCompletion {s : State} {it : FailItem} {overtaken : Bool} (hengine : s.engine = .item it overtaken) :
    exec .itemCompletion s = .next ((s.itemEffects it overtaken).itemEnded it) := by
  change execItemCompletion s = _
  unfold execItemCompletion
  rw [hengine]
  rfl

theorem State.itemEffects_of_not_passes {s : State} {it : FailItem} {overtaken : Bool} (hno : ¬ (overtaken = false
    ∧ it.generation = (s.head it.head).generation ∧ ((s.head it.head).site it.site).stopped = false
    ∧ ((s.head it.head).block it.site it.block).state = .collecting)) :
    s.itemEffects it overtaken = { s with engine := .idle } := by
  refine if_neg fun hpass => hno ?_
  obtain ⟨hover, hpass⟩ := Bool.and_eq_true_iff.mp hpass
  exact ⟨Bool.not_eq_true' _ ▸ hover, (State.dequeuePasses_iff _ it).mp hpass⟩

theorem State.itemEffects_of_passes {s : State} {it : FailItem} {overtaken : Bool} (hpass : overtaken = false
    ∧ it.generation = (s.head it.head).generation ∧ ((s.head it.head).site it.site).stopped = false
    ∧ ((s.head it.head).block it.site it.block).state = .collecting) :
    s.itemEffects it overtaken = ({ s with engine := .idle } : State).applyItem it := by
  refine if_pos (Bool.and_eq_true_iff.mpr ⟨?_, (State.dequeuePasses_iff _ it).mpr hpass.2⟩)
  rw [hpass.1]
  rfl

/-- Settles O45: the check, the head after the effects, and the analysis of a new cell. -/
theorem itemCompletionActsOnTheBlock : Obligations.ItemCompletionActsOnTheBlock := by
  intro s it overtaken hengine h hd st b passes applies logs drops
  have hexec := exec_itemCompletion hengine
  have hnot (hno : ¬ passes) := State.itemEffects_of_not_passes (s := s) (it := it) (overtaken := overtaken) hno
  have hyes (hpass : passes) := State.itemEffects_of_passes (s := s) (it := it) (overtaken := overtaken) hpass
  have hkeep : ((s.itemEffects it overtaken).head h).generation = hd.generation
      ∧ ((s.itemEffects it overtaken).head h).state = hd.state := by
    by_cases hpass : passes
    · rw [hyes hpass, State.head_applyItem (s := { s with engine := .idle }) hpass.2.2.1]
      exact ⟨rfl, rfl⟩
    · rw [hnot hpass]
      exact ⟨rfl, rfl⟩
  generalize s.itemEffects it overtaken = t at *
  refine ⟨t, ?_, fun hstate => ?_, hnot, fun hpass => ?_⟩
  · rw [hexec, State.itemEnded, hkeep.1]
  · rw [hexec, State.itemEnded_eq_self (.inl (by rw [hkeep.2]; exact hstate))]
  · obtain ⟨hover, hgen, hlive, hcollecting⟩ := id hpass
    let u : State := { s with engine := .idle }
    have ht : t = u.applyItem it := hyes hpass
    have hlogs : u.itemLog it = logs := u.itemLog_eq it
    obtain ⟨hframe, hup, -⟩ := State.applyItem_spec (s := u) hlive
    have hhead := State.head_applyItem (s := u) hlive
    have hblock := State.block_applyItem (s := u) hlive
    have hsite := State.site_applyItem (s := u) hlive
    have hstopsite := State.site_applyItem_of_stops (s := u) hlive
    have honly := (State.applyItem_moves (s := u) hcollecting).onlyHead
    rw [← ht] at hframe hup hhead hblock hsite hstopsite honly
    have hafter : (t.head h).block it.site it.block = u.itemBlock it := by rw [hblock, if_pos ⟨rfl, rfl⟩]
    refine ⟨honly, hframe, ?_⟩
    intro after stops overran logged
    have hstops : stops = u.itemStops it := congrArg (fun x : Block => decide (x.state = .unrepairable)
      && hd.setup.stopPolicy == .stopOnReject && (hd.state == .testing || hd.state == .draining) && st.enabled) hafter
    rw [← hstops] at hup hhead hblock hsite hstopsite
    rw [State.itemNotices, hlogs] at hup
    rw [hlogs] at hhead
    refine ⟨hup, hhead, fun i hi => ?_, fun hno => ?_, hstopsite, fun i c hne => ?_, fun hcov => ?_, fun hrow hcol hlist => ?_,
      fun hrow hcol hnew => ?_⟩
    · rw [hsite]
      split_ifs
      · rw [Head.site_stopSite_ne _ _ hi]
        exact u.site_itemHead it i
      · rfl
    · rw [hsite, if_neg (by simp [hno])]
      rfl
    · rw [hblock, if_neg (by tauto)]
      rfl
    · have hprocess := processItem_of_covered (g := hd.geometry) (b := b) hcov
      exact ⟨hafter.trans (congrArg Prod.fst hprocess), (ite_eq_right_iff.mpr fun _ => congrArg Prod.snd hprocess)⟩
    · have hprocess := processItem_of_listed (g := hd.geometry) (b := b) hrow hcol hlist
      exact ⟨hafter.trans (congrArg Prod.fst hprocess), (ite_eq_right_iff.mpr fun _ => congrArg Prod.snd hprocess)⟩
    · obtain ⟨lines, hanalysed, hstate, hrows, hcols, hlog⟩ := processItem_analysed (g := hd.geometry) hcollecting hrow hcol hnew
      have hfinal : after = (processItem hd.geometry b it).1 := hafter
      have hentries : applies → logs = (processItem hd.geometry b it).2 := fun ha => if_pos ha
      rw [← hfinal] at hanalysed hstate hrows hcols hlog
      clear_value after
      intro g rowsLeft colsLeft must spare commit reject bounded firstMust b0 analysed entry
      have hmust : must = fun x l => x.must g l = true := by
        funext x l
        cases l <;> exact (propext decide_eq_true_iff).symm
      have hspare : spare = fun x l => x.spareFor g l = true := by
        funext x l
        cases l <;> exact (propext decide_eq_true_iff).symm
      have hcommit : commit = Block.commit := by
        funext x l
        cases l <;> rfl
      refine ⟨lines, ?_, hstate, ?_, ?_, fun ha => (hentries ha).trans ?_⟩
      · clear_value must spare commit
        subst hmust hspare hcommit
        exact hanalysed
      · refine hrows.trans (congrArg (fun f => b.rows ++ lines.filterMap f) (funext fun l => ?_))
        cases l <;> rfl
      · refine hcols.trans (congrArg (fun f => b.cols ++ lines.filterMap f) (funext fun l => ?_))
        cases l <;> rfl
      · refine hlog.trans (congrArg (fun f => _ ++ lines.map f ++ _) (funext fun l => ?_))
        cases l <;> rfl

end Sys2Proof.Machine
end

section
/-! The intake gate for one fail: counted, logged, stopped or queued (3.6, 3.7, 9.1). -/

namespace Sys2Proof.Machine

/-- The log entries that a fail makes at the gate (R52, R148). -/
def State.failLog (s : State) (h : HeadId) (i : SiteId) (logFlag : Bool) : Fail → List LogEntry
  | .mapped .. => []
  | .unmapped word v =>
    if loggingApplies ((s.head h).site i).logEnable (s.head h).setup.logMode logFlag then [unmappedLog i word v] else []

theorem State.logUnmapped_eq (s : State) (h : HeadId) (i : SiteId) (logFlag : Bool) (f : Fail) :
    s.logUnmapped h i logFlag f = (s.failLog h i logFlag f).foldl (fun t e => t.appendLog h e) s := by
  cases f with
  | mapped => rfl
  | unmapped word v =>
    unfold State.logUnmapped State.failLog
    dsimp only
    split_ifs <;> rfl

/-- The head whose site has the fail counted (R51, R52). -/
theorem Head.site_countFail (hd : Head) (i j : SiteId) (f : Fail) : (hd.countFail i f).site j
    = if j = i then { hd.site i with
        rawFails := min ((hd.site i).rawFails + 1) 65535, unmapped := (hd.site i).unmapped || !f.isMapped }
      else hd.site j := by
  unfold Head.countFail
  split_ifs with hj
  · rw [hj, Head.site_updSite_self]
    rfl
  · rw [Head.site_updSite_ne _ _ hj]

theorem Head.countFail_frame (hd : Head) (i : SiteId) (f : Fail) :
    hd.countFail i f = { hd with sites := (hd.countFail i f).sites } := rfl

/-! ### The gate's parts -/

/-- The state with a fail counted and logged, before the steps that may stop the site (R51, R52). -/
def State.failLogged (s : State) (h : HeadId) (i : SiteId) (logFlag : Bool) (f : Fail) : State :=
  (s.failLog h i logFlag f).foldl (fun t e => t.appendLog h e) (s.updHead h (fun hd => hd.countFail i f))

/-- The head with a fail counted and logged. -/
def State.failHead (s : State) (h : HeadId) (i : SiteId) (logFlag : Bool) (f : Fail) : Head :=
  ((s.head h).countFail i f).appended (s.failLog h i logFlag f)

/-- Whether the fail brings the count of its site to a set limit (R51). -/
def Site.hitsLimit (st : Site) : Bool := st.failLimit != 0 && min (st.rawFails + 1) 65535 == st.failLimit

/-- Whether the fail stops its site: by the limit, or, unmapped, under STOP_ON_REJECT (R51, R52). -/
def State.failStops (s : State) (h : HeadId) (i : SiteId) (f : Fail) : Bool :=
  ((s.head h).site i).hitsLimit || (!f.isMapped && (s.head h).setup.stopPolicy == .stopOnReject)

/-- The reason of the stop (R53). -/
def State.failReason (s : State) (h : HeadId) (i : SiteId) : StopReason :=
  if ((s.head h).site i).hitsLimit then .failLimit else .reject

/-- The item that a fail becomes, if it joins the Analysis Queue (R51). -/
def State.failItems (s : State) (h : HeadId) (i : SiteId) (logFlag : Bool) : Fail → List FailItem
  | .mapped b row col v =>
    if ((s.head h).site i).hitsLimit then [] else [⟨h, i, b, row, col, v, (s.head h).generation, logFlag⟩]
  | .unmapped _ _ => []

theorem State.appended_failLogged (s : State) (h : HeadId) (i : SiteId) (logFlag : Bool) (f : Fail) :
    (s.updHead h (fun hd => hd.countFail i f)).Appended (s.failLogged h i logFlag f) h (s.failLog h i logFlag f) :=
  State.appended_logs _ _ _

theorem State.head_failLogged (s : State) (h : HeadId) (i : SiteId) (logFlag : Bool) (f : Fail) :
    (s.failLogged h i logFlag f).head h = s.failHead h i logFlag f := by
  rw [(s.appended_failLogged h i logFlag f).head, State.head_updHead_self]
  rfl

theorem State.site_failHead (s : State) (h : HeadId) (i : SiteId) (logFlag : Bool) (f : Fail) (j : SiteId) :
    (s.failHead h i logFlag f).site j = if j = i then { (s.head h).site i with
        rawFails := min (((s.head h).site i).rawFails + 1) 65535
        unmapped := ((s.head h).site i).unmapped || !f.isMapped }
      else (s.head h).site j := (Head.site_appended _ _ _).trans (Head.site_countFail _ i j f)

/-- A fail of a site that is not stopped is counted and logged, and then passed (R51). -/
theorem State.gate_of_live {s : State} {h : HeadId} {i : SiteId} (hlive : ((s.head h).site i).stopped = false)
    (logFlag : Bool) (f : Fail) : State.gate h i logFlag s f = (s.failLogged h i logFlag f).passFail h i logFlag f := by
  have hlog : (s.updHead h (fun hd => hd.countFail i f)).logUnmapped h i logFlag f = s.failLogged h i logFlag f := by
    rw [State.logUnmapped_eq]
    have hsame : (s.updHead h (fun hd => hd.countFail i f)).failLog h i logFlag f = s.failLog h i logFlag f := by
      unfold State.failLog
      rw [State.head_updHead_self, Head.site_countFail, if_pos rfl]
      rfl
    rw [hsame]
    rfl
  unfold State.gate
  rw [if_neg (by simp [hlive]), hlog]

theorem State.limit_failHead {s : State} {h : HeadId} {i : SiteId} {logFlag : Bool} {f : Fail} :
    (((s.failHead h i logFlag f).site i).failLimit ≠ 0
      ∧ ((s.failHead h i logFlag f).site i).rawFails = ((s.failHead h i logFlag f).site i).failLimit)
    ↔ ((s.head h).site i).hitsLimit = true := by
  rw [State.site_failHead, if_pos rfl]
  simp [Site.hitsLimit]

/-- Steps 4 and 5 of the gate: a stop, or the joining of the Analysis Queue (R51, R52). -/
theorem State.passFail_failLogged (s : State) (h : HeadId) (i : SiteId) (logFlag : Bool) (f : Fail) :
    (s.failLogged h i logFlag f).passFail h i logFlag f
      = if s.failStops h i f then (s.failLogged h i logFlag f).stopSite h i (s.failReason h i)
        else { s.failLogged h i logFlag f with analysis := s.analysis ++ s.failItems h i logFlag f } := by
  have hanalysis : (s.failLogged h i logFlag f).analysis = s.analysis := by rw [(s.appended_failLogged h i logFlag f).frame]; rfl
  unfold State.passFail
  dsimp only
  rw [s.head_failLogged h i logFlag f]
  simp only [State.limit_failHead]
  cases hlimit : ((s.head h).site i).hitsLimit with
  | true => simp [State.failStops, State.failReason, hlimit]
  | false =>
    cases f with
    | mapped =>
      simp only [State.failStops, hlimit, Fail.isMapped, State.failItems, hanalysis]
      rfl
    | unmapped word v =>
      have hreason : s.failReason h i = .reject := by simp [State.failReason, hlimit]
      have hsame : { s.failLogged h i logFlag (.unmapped word v) with analysis := s.analysis ++ [] }
          = s.failLogged h i logFlag (.unmapped word v) := by
        rw [List.append_nil, ← hanalysis]
      rw [hreason, State.failItems, hsame, if_neg Bool.false_ne_true]
      refine if_congr ?_ rfl rfl
      simp only [State.failStops, hlimit, Fail.isMapped, Bool.not_false, Bool.true_and, Bool.false_or, beq_iff_eq]
      exact Iff.rfl

/-- What the gate does with a fail of an enabled site that is not stopped (R51 to R53). -/
theorem State.gate_spec {s : State} {h : HeadId} {i : SiteId} (hlive : ((s.head h).site i).stopped = false)
    (henabled : ((s.head h).site i).enabled = true) (logFlag : Bool) (f : Fail) :
    s.onlyHead (State.gate h i logFlag s f) h
      ∧ State.gate h i logFlag s f = { s with
          heads := (State.gate h i logFlag s f).heads, upstream := (State.gate h i logFlag s f).upstream
          analysis := (State.gate h i logFlag s f).analysis }
      ∧ (State.gate h i logFlag s f).analysis
        = s.analysis ++ (if s.failStops h i f then [] else s.failItems h i logFlag f)
      ∧ (State.gate h i logFlag s f).upstream = (s.failLogged h i logFlag f).upstream
        ++ (if s.failStops h i f then (s.failLogged h i logFlag f).noticesFor h .siteStopped (s.failHead h i logFlag f)
          ((State.gate h i logFlag s f).head h) 0 else [])
      ∧ (State.gate h i logFlag s f).head h = if s.failStops h i f then
          { (s.failHead h i logFlag f).stopSite i (s.failReason h i) with
            events := (s.failHead h i logFlag f).events ||| HeadEvent.siteStopped.bit }
        else s.failHead h i logFlag f := by
  have hlogged := (s.appended_failLogged h i logFlag f).frame
  have honly : s.onlyHead (s.failLogged h i logFlag f) h :=
    (State.onlyHead_updHead s h _).trans (State.appendLogs_moves h _ _).onlyHead
  have hhead := s.head_failLogged h i logFlag f
  rw [State.gate_of_live hlive, State.passFail_failLogged]
  generalize s.failLogged h i logFlag f = w at *
  have hsite := s.site_failHead h i logFlag f i
  rw [if_pos rfl] at hsite
  cases hstops : s.failStops h i f with
  | true =>
    have hraised := w.raised_stopSite h i (s.failReason h i) (by rw [hhead, hsite]; exact henabled)
      (by rw [hhead, hsite]; exact hlive)
    simp only [if_true]
    rw [hhead] at hraised
    have hup := hraised.upstream
    rw [hhead] at hup
    generalize w.stopSite h i (s.failReason h i) = t at *
    refine ⟨honly.trans hraised.onlyHead, ?_, ?_, hup, hraised.head⟩
    · rw [hraised.frame, hlogged]
      rfl
    · rw [hraised.frame, hlogged, List.append_nil]
      rfl
  | false =>
    simp only [Bool.false_eq_true, if_false, List.append_nil]
    refine ⟨honly, ?_, trivial, trivial, hhead⟩
    rw [hlogged]
    rfl

/-- Whether a fail hands an entry to the Fail Log (R148). -/
def State.failLogs (s : State) (h : HeadId) (i : SiteId) (logFlag : Bool) (f : Fail) : Bool :=
  !f.isMapped && ((s.head h).site i).logEnable
    && ((s.head h).setup.logMode == .always || (s.head h).setup.logMode == .onTrigger && logFlag)

theorem State.length_failLog (s : State) (h : HeadId) (i : SiteId) (logFlag : Bool) (f : Fail) :
    (s.failLog h i logFlag f).length = if s.failLogs h i logFlag f then 1 else 0 := by
  cases f with
  | mapped => rfl
  | unmapped word v =>
    have hlogs : s.failLogs h i logFlag (.unmapped word v)
        = loggingApplies ((s.head h).site i).logEnable (s.head h).setup.logMode logFlag := rfl
    rw [hlogs, State.failLog]
    split_ifs <;> rfl

/-- The entry of a fail is dropped when the log is full (R150). -/
theorem State.drops_failLog (s : State) (h : HeadId) (i : SiteId) (logFlag : Bool) (f : Fail) :
    decide (256 - (s.head h).log.length < (s.failLog h i logFlag f).length)
      = (s.failLogs h i logFlag f && decide (256 ≤ (s.head h).log.length)) := by
  rw [State.length_failLog]
  cases s.failLogs h i logFlag f with
  | false => simp
  | true => exact decide_eq_decide.mpr (by simp; omega)

theorem State.take_failLog (s : State) (h : HeadId) (i : SiteId) (logFlag : Bool) (f : Fail) :
    (s.failLog h i logFlag f).take (256 - (s.head h).log.length) = match f with
      | .mapped _ _ _ _ => []
      | .unmapped word v => if s.failLogs h i logFlag f = true
          ∧ (s.failLogs h i logFlag f && decide (256 ≤ (s.head h).log.length)) = false then
            [⟨.unmapped, i, none, none, none, some word, v⟩] else [] := by
  cases f with
  | mapped => exact List.take_nil
  | unmapped word v =>
    have hes : s.failLog h i logFlag (.unmapped word v)
        = if s.failLogs h i logFlag (.unmapped word v) then [unmappedLog i word v] else [] := rfl
    rw [hes]
    cases s.failLogs h i logFlag (.unmapped word v) with
    | false => simp
    | true =>
      by_cases hfull : 256 ≤ (s.head h).log.length
      · simp [hfull, Nat.sub_eq_zero_of_le hfull]
      · obtain ⟨m, hm⟩ : ∃ m, 256 - (s.head h).log.length = m + 1 := ⟨255 - (s.head h).log.length, by omega⟩
        simp [hm, hfull, unmappedLog]

theorem State.log_failHead (s : State) (h : HeadId) (i : SiteId) (logFlag : Bool) (f : Fail) :
    (s.failHead h i logFlag f).log = (s.head h).log ++ match f with
      | .mapped _ _ _ _ => []
      | .unmapped word v => if s.failLogs h i logFlag f = true
          ∧ (s.failLogs h i logFlag f && decide (256 ≤ (s.head h).log.length)) = false then
            [⟨.unmapped, i, none, none, none, some word, v⟩] else [] :=
  congrArg ((s.head h).log ++ ·) (s.take_failLog h i logFlag f)

theorem State.failHead_frame (s : State) (h : HeadId) (i : SiteId) (logFlag : Bool) (f : Fail) :
    s.failHead h i logFlag f = { s.head h with
      sites := (s.failHead h i logFlag f).sites, log := (s.failHead h i logFlag f).log
      overrun := (s.head h).overrun || (s.failLogs h i logFlag f && decide (256 ≤ (s.head h).log.length))
      events := (s.head h).events ||| (if (s.failLogs h i logFlag f && decide (256 ≤ (s.head h).log.length)) = true then
        HeadEvent.logOverrun.bit else 0) } := by
  rw [← State.drops_failLog]
  rfl

/-- An item joins the queue exactly for a mapped fail that does not reach the limit (R51). -/
theorem State.failItems_eq (s : State) (h : HeadId) (i : SiteId) (logFlag : Bool) (f : Fail) :
    (if s.failStops h i f = true then [] else s.failItems h i logFlag f) = match f with
      | .mapped b row col v =>
        if ((s.head h).site i).hitsLimit then [] else [⟨h, i, b, row, col, v, (s.head h).generation, logFlag⟩]
      | .unmapped _ _ => [] := by
  cases f with
  | mapped b row col v =>
    have hstops : s.failStops h i (.mapped b row col v) = ((s.head h).site i).hitsLimit := Bool.or_false _
    rw [hstops, State.failItems]
    split_ifs <;> rfl
  | unmapped => exact ite_self _

/-- The site after the gate (R51 to R53). -/
theorem State.site_failStops {s : State} {h : HeadId} {i : SiteId} (henabled : ((s.head h).site i).enabled = true)
    (logFlag : Bool) (f : Fail) :
    ((s.failHead h i logFlag f).stopSite i (s.failReason h i)).site i = { (s.head h).site i with
      rawFails := min (((s.head h).site i).rawFails + 1) 65535
      unmapped := ((s.head h).site i).unmapped || !f.isMapped, stopped := true, stopReason := s.failReason h i
      verdict := if ((s.head h).site i).verdict.isFinal = false then .unrepairable
        else ((s.head h).site i).verdict } := by
  have hsite := s.site_failHead h i logFlag f i
  rw [if_pos rfl] at hsite
  have hreason : s.failReason h i ≠ .none ∧ s.failReason h i ≠ .manual := by
    unfold State.failReason
    split_ifs <;> decide
  rw [Head.site_stopSite_self, hsite]
  cases hfinal : ((s.head h).site i).verdict.isFinal with
  | true =>
    rw [Head.verdict_stopSite_of_final _ _ _ (by rw [hsite]; exact hfinal), hsite, if_neg Bool.noConfusion]
  | false =>
    rw [Head.verdict_stopSite _ _ hreason.1 (by rw [hsite]; exact henabled) (by rw [hsite]; exact hfinal),
      if_pos (.inr (.inr hreason.2)), if_pos rfl]

/-- Settles O43: the gate's parts, by the site's flags and the kind of fail. -/
theorem gateCountsStopsAndQueues : Obligations.GateCountsStopsAndQueues := by
  intro s h i logFlag f hd st t counted limit stops logs drops overran logged
  refine ⟨fun hstopped => if_pos hstopped, fun hlive henabled => ?_⟩
  obtain ⟨honly, hframe, hanalysis, hup, hhead⟩ := State.gate_spec hlive henabled logFlag f
  have hstops : s.failStops h i f = stops := rfl
  have hlogged : (s.failLogged h i logFlag f).upstream = logged.upstream := by
    rw [(s.appended_failLogged h i logFlag f).upstream, State.head_updHead_self]
    exact congrArg (fun c => s.upstream ++ if c = true then _ else []) (s.drops_failLog h i logFlag f)
  have hwframe := (s.appended_failLogged h i logFlag f).frame
  have hsite := s.site_failHead h i logFlag f
  have hlog := s.log_failHead h i logFlag f
  have hkept := s.failHead_frame h i logFlag f
  have hself := State.site_failStops henabled logFlag f
  have hno : stops = false → limit = false := fun hn => (Bool.or_eq_false_iff.mp hn).1
  have hreason : s.failReason h i = if limit then .failLimit else .reject := rfl
  have hblock (j b) : (s.failHead h i logFlag f).block j b = hd.block j b := rfl
  rw [State.failItems_eq] at hanalysis
  rw [hstops] at hup hhead
  clear_value stops
  refine ⟨honly, hframe, ?_, hanalysis, ?_, fun j hj => ?_, ?_, fun j b => ?_⟩
  · rw [hup, hlogged]
    refine congrArg (fun x => logged.upstream ++ if stops = true then x else []) (State.noticesFor_congr _ _
      (Head.siteStopped_isIn_appended _ _) rfl ?_ hlogged ?_ ?_)
    all_goals
      rw [hwframe]
      rfl
  · have hself : t.head h = _ := hhead
    cases stops with
    | false =>
      have hzero (x : BitVec 8) : x ||| 0 = x := BitVec.or_zero
      rw [if_neg Bool.false_ne_true] at hself
      rw [hself, if_neg Bool.false_ne_true, hzero]
      refine hkept.trans ?_
      rw [hlog]
      rfl
    | true =>
      rw [if_pos rfl] at hself
      rw [hself, if_pos rfl, Head.stopSite_eq]
      refine (congrArg (fun x : Head => { x with
        sites := ((s.failHead h i logFlag f).stopSite i (s.failReason h i)).sites
        blocks := ((s.failHead h i logFlag f).stopSite i (s.failReason h i)).blocks
        events := (s.failHead h i logFlag f).events ||| HeadEvent.siteStopped.bit }) hkept).trans ?_
      rw [hlog, congrArg Head.events hkept]
      rfl
  · refine (congrArg (Head.site · j) hhead).trans ?_
    split_ifs
    · rw [Head.site_set_events, Head.site_stopSite_ne _ _ hj, hsite, if_neg hj]
    · rw [hsite, if_neg hj]
  · refine (congrArg (Head.site · i) hhead).trans ?_
    cases stops with
    | false =>
      rw [if_neg Bool.false_ne_true, hsite, if_pos rfl, hno rfl]
      simp only [Bool.false_eq_true, if_false, false_and]
      exact congrArg (fun x => ({ st with
        rawFails := counted, unmapped := st.unmapped || !f.isMapped, stopped := x } : Site)) hlive
    | true =>
      rw [if_pos rfl, Head.site_set_events, hself, hreason]
      simp only [true_and, if_true]
      rfl
  · refine (congrArg (Head.block · j b) hhead).trans ?_
    cases stops with
    | false => simp [hblock]
    | true =>
      rw [if_pos rfl, Head.block_set_events, Head.block_stopSite, hblock, Block.stop_eq_ite, ← ite_and]
      simp

end Sys2Proof.Machine
end

section
/-! The hold of a lane and the deadlines of its tracking entries (2.9, 5.2). -/

namespace Sys2Proof.Machine

/-! ### Overdue entries (R83) -/

/-- The oldest unanswered entry of a tracking queue is overdue. -/
def Overdue (q : List TrackEntry) : Prop := (oldestUnanswered q).map TrackEntry.deadline = some (.running 0)

theorem overdue_iff (q : List TrackEntry) : Overdue q ↔ ∃ pre e post, q = pre ++ e :: post
    ∧ (∀ k ∈ pre, k.deadline = .answered) ∧ e.deadline = .running 0 := oldestUnanswered_deadline_iff q 0

theorem not_overdue_of_forall {q : List TrackEntry} (hq : ∀ e ∈ q, e.deadline ≠ .running 0) : ¬ Overdue q := by
  rw [overdue_iff]
  rintro ⟨pre, e, post, rfl, -, he⟩
  exact hq e (by simp) he

/-- Answered entries in front of a queue do not show in its oldest unanswered entry. -/
theorem oldestUnanswered_append {pre : List TrackEntry} (hpre : ∀ k ∈ pre, k.deadline = .answered) (q : List TrackEntry) :
    oldestUnanswered (pre ++ q) = oldestUnanswered q := by
  unfold oldestUnanswered
  rw [List.find?_append, List.find?_eq_none.mpr fun k hk => by simp [TrackEntry.unanswered, hpre k hk], Option.none_or]

theorem oldestUnanswered_cons {e : TrackEntry} (he : e.deadline ≠ .answered) (q : List TrackEntry) :
    oldestUnanswered (e :: q) = some e := List.find?_cons_of_pos (by simpa [TrackEntry.unanswered] using he)

theorem dropOldestUnanswered_cons {pre : List TrackEntry} {e : TrackEntry} (hpre : ∀ k ∈ pre, k.deadline = .answered)
    (he : e.deadline ≠ .answered) (q : List TrackEntry) : dropOldestUnanswered (pre ++ e :: q) = pre ++ q := by
  induction pre with
  | nil => exact if_pos (by simpa [TrackEntry.unanswered] using he)
  | cons k pre ih =>
    have hk : k.unanswered = false := by simp [TrackEntry.unanswered, hpre k List.mem_cons_self]
    rw [List.cons_append, dropOldestUnanswered, if_neg (by simp [hk]), ih fun x hx => hpre x (List.mem_cons_of_mem _ hx)]
    rfl

theorem State.expireOverdue_eq_self {s : State} {h : HeadId} (n : Nat) (hnot : ¬ Overdue (s.head h).tracking) :
    State.expireOverdue n s h = s := by
  cases n with
  | zero => rfl
  | succ n => exact if_neg hnot

theorem State.settleDeadlines_eq_self {s : State} {h : HeadId} (hnot : ¬ Overdue (s.head h).tracking) :
    s.settleDeadlines h = s := State.expireOverdue_eq_self _ hnot

theorem State.expireOverdue_succ {s : State} {h : HeadId} (n : Nat) (hdue : Overdue (s.head h).tracking) :
    State.expireOverdue (n + 1) s h = State.expireOverdue n (s.expireOldest h) h := if_pos hdue

/-! ### The expiry of one entry, and of several (R83, R84) -/

/-- A drain test leaves the tracking queue of its head as it is. -/
theorem State.tracking_testDrain (s : State) (h : HeadId) : ((s.testDrain h).head h).tracking = (s.head h).tracking := by
  rcases s.testDrain_cases h with ⟨heq, -⟩ | ⟨heq, -⟩
  · rw [heq, State.head_endDraining_self, Head.drained_frame]
  · rw [heq]

/-- The head after its entries `gone` have expired and left it `queue`. -/
def Head.expired (hd : Head) (gone queue : List TrackEntry) : Head := { hd.loseAll .timeout gone with tracking := queue }

theorem Head.expired_frame (hd : Head) (gone queue : List TrackEntry) :
    hd.expired gone queue = { hd with sites := (hd.loseAll .timeout gone).sites, tracking := queue } := by
  unfold Head.expired
  rw [Head.loseAll_frame]

/-- The marking of sites depends on the sites alone. -/
theorem Head.sites_loseAll_congr {hd hd' : Head} (hsites : hd'.sites = hd.sites) (c : LossCause) (es : List TrackEntry) :
    (hd'.loseAll c es).sites = (hd.loseAll c es).sites := by
  induction es generalizing hd hd' with
  | nil => exact hsites
  | cons e es ih =>
    refine ih (hd := Head.lose c e.sites hd) (hd' := Head.lose c e.sites hd') ?_
    simp only [Head.lose, Head.mapSites, Head.site, hsites]

theorem State.expireOldest_eq {s : State} {h : HeadId} {answered queue : List TrackEntry} {e : TrackEntry}
    (htrack : (s.head h).tracking = answered ++ e :: queue) (hpre : ∀ k ∈ answered, k.deadline = .answered)
    (he : e.deadline ≠ .answered) : ∃ t, s.expireOldest h = t.testDrain h
      ∧ s.Raised t h .resultLoss ((s.head h).expired [e] (answered ++ queue)) := by
  have holdest : oldestUnanswered (s.head h).tracking = some e := by
    rw [htrack, oldestUnanswered_append hpre, oldestUnanswered_cons he]
  have hdrop : dropOldestUnanswered (s.head h).tracking = answered ++ queue := by
    rw [htrack, dropOldestUnanswered_cons hpre he]
  have hraised := s.raised_updHead h .resultLoss
    (fun hd => Head.lose .timeout e.sites { hd with tracking := dropOldestUnanswered hd.tracking }) rfl rfl
  refine ⟨(s.updHead h (fun hd => { hd with tracking := dropOldestUnanswered hd.tracking })).lose h .timeout e.sites
    .resultLoss, ?_, ?_⟩
  · unfold State.expireOldest
    rw [holdest]
  · unfold State.lose
    rw [State.updHead_updHead]
    rw [hdrop] at hraised
    exact hraised

/-- An event raised again after a further change of the head shows once. -/
theorem State.Raised.again {s u t : State} {h : HeadId} {e : HeadEvent} {hd hd' : Head} (hs : s.Raised u h e hd)
    (ht : u.Raised t h e hd') (hstate : hd'.state = hd.state) (hevents : hd'.events = hd.events ||| e.bit) :
    s.Raised t h e hd' := by
  have hin : e.isIn (u.head h).events = true := by
    rw [hs.head]
    exact HeadEvent.isIn_or_self _ _
  refine ⟨hs.onlyHead.trans ht.onlyHead, ?_, ?_, ht.head⟩
  · rw [ht.frame, hs.frame]
  · rw [ht.upstream, State.noticesFor_of_isIn hin, List.append_nil, hs.upstream]
    refine congrArg (s.upstream ++ ·) ?_
    have hsame : (t.head h).state = (u.head h).state ∧ (t.head h).events = (u.head h).events := by
      rw [ht.head, hs.head, hevents]
      exact ⟨hstate, HeadEvent.or_bit_of_isIn (HeadEvent.isIn_or_self _ _)⟩
    unfold State.noticesFor
    rw [hsame.1, hsame.2]

theorem State.Raised.head_congr {s t : State} {h : HeadId} {e : HeadEvent} {hd hd' : Head} (ht : s.Raised t h e hd)
    (heq : { hd' with events := hd'.events ||| e.bit } = { hd with events := hd.events ||| e.bit }) : s.Raised t h e hd' :=
  ⟨ht.onlyHead, ht.frame, ht.upstream, ht.head.trans heq.symm⟩

/-- Overdue entries at the front of the unanswered ones expire one after another; the drain condition is tested for the
last of them, as the queue is not empty before that (R83, R84). -/
theorem State.expireOverdue_of_overdue {answered rest : List TrackEntry} {h : HeadId}
    (hpre : ∀ k ∈ answered, k.deadline = .answered) (hrest : ¬ Overdue rest) (overdue : List TrackEntry)
    (hdue : ∀ k ∈ overdue, k.deadline = .running 0) (hne : overdue ≠ []) (n : Nat) (hn : overdue.length ≤ n) (s : State)
    (htrack : (s.head h).tracking = answered ++ (overdue ++ rest)) : ∃ t, State.expireOverdue n s h = t.testDrain h
      ∧ s.Raised t h .resultLoss ((s.head h).expired overdue (answered ++ rest)) := by
  induction overdue generalizing s n with
  | nil => exact absurd rfl hne
  | cons e overdue ih =>
    obtain ⟨m, rfl⟩ : ∃ m, n = m + 1 := Nat.exists_eq_succ_of_ne_zero (by simp at hn; omega)
    have he : e.deadline = .running 0 := hdue e List.mem_cons_self
    have hnow : Overdue (s.head h).tracking :=
      (overdue_iff _).mpr ⟨answered, e, overdue ++ rest, htrack, hpre, he⟩
    obtain ⟨u, hu, hraised⟩ := State.expireOldest_eq htrack hpre (by simp [he])
    rw [State.expireOverdue_succ _ hnow, hu]
    by_cases hlast : overdue = []
    · subst hlast
      refine ⟨u, State.expireOverdue_eq_self _ ?_, hraised⟩
      rw [State.tracking_testDrain, hraised.head]
      unfold Overdue
      change ¬ Option.map _ (oldestUnanswered (answered ++ ([] ++ rest))) = _
      rw [oldestUnanswered_append hpre]
      exact hrest
    · have hqueue : (u.head h).tracking = answered ++ (overdue ++ rest) := by rw [hraised.head]; rfl
      have hwait : u.testDrain h = u := State.testDrain_eq_self (.inr (.inl (by simp [hqueue, hlast])))
      obtain ⟨t, ht, hagain⟩ := ih (fun k hk => hdue k (List.mem_cons_of_mem _ hk)) hlast m
        (by simp at hn; omega) u hqueue
      rw [hwait]
      refine ⟨t, ht, ?_⟩
      have hsites : ((u.head h).loseAll .timeout overdue).sites = ((s.head h).loseAll .timeout (e :: overdue)).sites := by
        refine Head.sites_loseAll_congr (hd := Head.lose .timeout e.sites (s.head h)) ?_ _ _
        rw [hraised.head]
        rfl
      refine (State.Raised.again hraised hagain ?_ ?_).head_congr ?_
      · rw [Head.expired_frame, Head.expired_frame, hraised.head, Head.expired_frame]
      · rw [Head.expired_frame, hraised.head]
      · rw [Head.expired_frame, Head.expired_frame, hsites, hraised.head, Head.expired_frame]
        dsimp only
        rw [HeadEvent.or_bit_of_isIn (HeadEvent.isIn_or_self _ _)]

end Sys2Proof.Machine
end

section
/-! TRACKING_EXPIRY and overdue entries (5.2). -/

namespace Sys2Proof.Machine

/-- The sites of a head, written out. -/
theorem Head.sites_eq_tabulate {hd : Head} {f : SiteId → Site} (hsite : ∀ i, hd.site i = f i) : hd.sites = tabulate f :=
  Vector.ext fun i hi => (hsite ⟨i, hi⟩).trans (tabulate_getElem f i hi).symm

/-- The head after its entries `gone` have expired, written out, with the event of it. -/
theorem Head.expired_eq (hd : Head) (gone queue : List TrackEntry) :
    { hd.expired gone queue with events := (hd.expired gone queue).events ||| HeadEvent.resultLoss.bit } = { hd with
      tracking := queue
      events := hd.events ||| HeadEvent.resultLoss.bit
      sites := tabulate (fun i =>
        if gone.any (fun e => e.sites.getLsbD i.val) = true ∧ (hd.site i).enabled = true
            ∧ (hd.site i).verdict.isFinal = false then
          { hd.site i with causes := (hd.site i).causes ||| LossCause.timeout.bit }
        else hd.site i) } := by
  rw [Head.expired_frame, Head.sites_eq_tabulate (Head.site_loseAll .timeout gone hd)]

/-! ### TRACKING_EXPIRY (R83) -/

/-- A tracking entry after `n` lane quanta. -/
def TrackEntry.elapse (n : Nat) (k : TrackEntry) : TrackEntry := { k with deadline := k.deadline.elapse n }

theorem tracking_elapse (n : Nat) (hd : Head) : (hd.elapse n).tracking = hd.tracking.map (TrackEntry.elapse n) := rfl

theorem map_elapse_answered {q : List TrackEntry} (n : Nat) (hq : ∀ k ∈ q, k.deadline = .answered) :
    q.map (TrackEntry.elapse n) = q :=
  (List.map_congr_left fun k hk => by
    have hsame : k.deadline.elapse n = k.deadline := by rw [hq k hk]; rfl
    rw [TrackEntry.elapse, hsame]
    rfl).trans (List.map_id q)

/-- A queue is not overdue once `n` quanta have passed when its first unanswered entry, if RUNNING, has more left. -/
theorem not_overdue_elapse {rest : List TrackEntry} {n : Nat}
    (hrest : ∀ pre k more, rest = pre ++ k :: more → (∀ x ∈ pre, x.deadline = .answered) →
      ∀ q, k.deadline = .running q → n < q) :
    ¬ Overdue (rest.map (TrackEntry.elapse n)) := by
  rw [overdue_iff]
  rintro ⟨pre, k, more, heq, hpre, hk⟩
  obtain ⟨pre', tail, rfl, hpre', htail⟩ := List.map_eq_append_iff.mp heq
  obtain ⟨k', more', rfl, rfl, -⟩ := List.map_eq_cons_iff.mp htail
  have hall : ∀ x ∈ pre', x.deadline = .answered := fun x hx => by
    have hx' := hpre (x.elapse n) (hpre' ▸ List.mem_map_of_mem hx)
    cases hd : x.deadline <;> simp_all [TrackEntry.elapse, Deadline.elapse]
  cases hd : k'.deadline with
  | running q =>
    have hlt := hrest pre' k' more' rfl hall q hd
    simp only [TrackEntry.elapse, hd, Deadline.elapse, Deadline.running.injEq] at hk
    omega
  | waitingSend => simp [TrackEntry.elapse, hd, Deadline.elapse] at hk
  | paused q => simp [TrackEntry.elapse, hd, Deadline.elapse] at hk
  | answered => simp [TrackEntry.elapse, hd, Deadline.elapse] at hk

/-- Entries with at most `n` quanta left are overdue once `n` have passed. -/
theorem overdue_elapse {overdue : List TrackEntry} {n : Nat}
    (hdue : ∀ k ∈ overdue, ∃ q, k.deadline = .running q ∧ q ≤ n) :
    ∀ k ∈ overdue.map (TrackEntry.elapse n), k.deadline = .running 0 := by
  intro k hk
  obtain ⟨x, hx, rfl⟩ := List.mem_map.mp hk
  obtain ⟨q, hq, hle⟩ := hdue x hx
  simp [TrackEntry.elapse, hq, Deadline.elapse, Nat.sub_eq_zero_of_le hle]

/-- TRACKING_EXPIRY lets what is left of the oldest unanswered entry's deadline pass. -/
theorem exec_trackingExpiry {s : State} {h : HeadId} {n : Nat} {pre post : List TrackEntry} {e : TrackEntry}
    (htrack : (s.head h).tracking = pre ++ e :: post) (hpre : ∀ k ∈ pre, k.deadline = .answered)
    (he : e.deadline = .running n) : exec (.trackingExpiry h) s = .next ((s.elapse n).settleDeadlines h) := by
  change execTrackingExpiry h s = _
  unfold execTrackingExpiry
  rw [(oldestUnanswered_deadline_iff _ n).mpr ⟨pre, e, post, htrack, hpre, he⟩]

theorem State.Raised.testDrain_of_testing {s t : State} {h : HeadId} {e : HeadEvent} {hd : Head} (ht : s.Raised t h e hd)
    (hstate : hd.state = .testing) : t.testDrain h = t :=
  State.testDrain_eq_self (.inl (by rw [ht.head]; simp [hstate]))

/-- Settles O41: overdue entries expire one after another, by induction on them; the command is that after the time it
lets pass. -/
theorem trackingExpiryRetiresTheOldestUnanswered : Obligations.TrackingExpiryRetiresTheOldestUnanswered := by
  unfold Obligations.TrackingExpiryRetiresTheOldestUnanswered
  intro retired
  have hretired {s t : State} {h : HeadId} {gone queue : List TrackEntry}
      (ht : s.Raised t h .resultLoss ((s.head h).expired gone queue)) : retired s t h gone queue :=
    ⟨ht.onlyHead, ht.frame, ht.upstream, ht.head.trans (Head.expired_eq _ _ _)⟩
  constructor
  · intro s h answered overdue rest htrack hpre hdue hrest
    have hnot : ¬ Overdue rest := by
      rw [overdue_iff]
      rintro ⟨pre, k, more, heq, hall, hk⟩
      exact hrest pre k more heq hall hk
    clear_value retired
    constructor
    · rintro rfl
      refine State.settleDeadlines_eq_self ?_
      unfold Overdue
      rw [htrack, List.append_nil, oldestUnanswered_append hpre]
      exact hnot
    · intro hne
      rw [List.append_assoc] at htrack
      obtain ⟨t, ht, hraised⟩ := State.expireOverdue_of_overdue hpre hnot overdue hdue hne
        (s.head h).tracking.length (by rw [htrack]; simp; omega) s htrack
      exact ⟨t, ht, hretired hraised⟩
  · intro s h answered overdue rest e n hstate htrack hpre he hdue hrest
    have hexec := exec_trackingExpiry htrack hpre he
    have hqueue : ((s.elapse n).head h).tracking
        = answered ++ ((e :: overdue).map (TrackEntry.elapse n) ++ rest.map (TrackEntry.elapse n)) := by
      rw [State.head_elapse, tracking_elapse, htrack, List.map_append, map_elapse_answered n hpre, ← List.cons_append,
        List.map_append]
    have hover : ∀ k ∈ e :: overdue, ∃ q, k.deadline = .running q ∧ q ≤ n :=
      List.forall_mem_cons.mpr ⟨⟨n, he, Nat.le_refl n⟩, hdue⟩
    obtain ⟨t, ht, hraised⟩ := State.expireOverdue_of_overdue hpre (not_overdue_elapse hrest)
      ((e :: overdue).map (TrackEntry.elapse n))
      (overdue_elapse hover) (by simp) ((s.elapse n).head h).tracking.length (by rw [hqueue]; simp; omega)
      (s.elapse n) hqueue
    have hsame : retired (s.elapse n) t h ((e :: overdue).map (TrackEntry.elapse n))
      (answered ++ rest.map (TrackEntry.elapse n)) := hretired hraised
    have hsettle : (s.elapse n).settleDeadlines h = t.testDrain h := ht
    refine ⟨t, hexec.trans (congrArg _ hsettle), fun htest => ?_, hexec, ?_⟩
    · rw [hexec, hsettle, hraised.testDrain_of_testing ?_]
      rw [Head.expired_frame, State.head_elapse]
      exact htest
    · have hany (i : SiteId) : ((e :: overdue).map (TrackEntry.elapse n)).any (fun k => k.sites.getLsbD i.val)
          = (e :: overdue).any (fun k => k.sites.getLsbD i.val) := by rw [List.any_map]; rfl
      simp only [retired, hany] at hsame
      exact hsame

end Sys2Proof.Machine
end

section
/-! FAIL_ENTRY_ARRIVAL and the hold of the lane (2.9). -/

namespace Sys2Proof.Machine

/-- When the lane is to be held (R35). -/
theorem Head.holdDue_iff (hd : Head) : hd.holdDue = true ↔ 32 ≤ hd.bufferRecords
    ∨ (1024 ≤ hd.bufferEntries ∧ hd.receivedEntries ≠ 1024) := by
  unfold Head.holdDue
  rw [Bool.or_eq_true, Bool.and_eq_true, bne_iff_ne]
  exact or_congr decide_eq_true_iff (and_congr_left' decide_eq_true_iff)

theorem Head.refreshHold_eq_self {hd : Head} (hsame : hd.holdDue = hd.laneHeld) : hd.refreshHold = hd := if_pos hsame

/-- A lane that becomes held pauses its running deadlines (R82). -/
theorem Head.refreshHold_held {hd : Head} (hdue : hd.holdDue = true) (hfree : hd.laneHeld = false) :
    hd.refreshHold = { hd with
      laneHeld := true
      tracking := hd.tracking.map (fun e => { e with deadline := e.deadline.pause }) } := by
  unfold Head.refreshHold
  simp [hdue, hfree]

/-- A lane that is released lets its paused deadlines run on (R82). -/
theorem Head.refreshHold_released {hd : Head} (hdue : hd.holdDue = false) (hheld : hd.laneHeld = true) :
    hd.refreshHold = { hd with
      laneHeld := false
      tracking := hd.tracking.map (fun e => { e with deadline := e.deadline.resume }) } := by
  unfold Head.refreshHold
  simp [hdue, hheld]

theorem Deadline.pause_ne_running (d : Deadline) (n : Nat) : d.pause ≠ .running n := by cases d <;> simp [Deadline.pause]

/-- A hold leaves no deadline overdue: with none overdue before it, the lane settles on the hold alone. -/
theorem State.settleLane_of_not_overdue {s : State} {h : HeadId} (hfree : (s.head h).laneHeld = false)
    (hnot : ¬ Overdue (s.head h).tracking) : s.settleLane h = s.updHead h Head.refreshHold := by
  refine State.settleDeadlines_eq_self ?_
  rw [State.head_updHead_self]
  by_cases hdue : (s.head h).holdDue = true
  · rw [Head.refreshHold_held hdue hfree]
    refine not_overdue_of_forall fun e he => ?_
    obtain ⟨k, -, rfl⟩ := List.mem_map.mp he
    exact Deadline.pause_ne_running _ _
  · rw [Head.refreshHold_eq_self (by simp [hdue, hfree])]
    exact hnot

/-- A lane that is not held and is not to be held stays as it is, and no entry expires. -/
theorem State.settleLane_of_released {s : State} {h : HeadId} (hfree : (s.head h).laneHeld = false)
    (hdue : (s.head h).holdDue = false) (hnot : ¬ Overdue (s.head h).tracking) : s.settleLane h = s := by
  rw [State.settleLane_of_not_overdue hfree hnot]
  exact State.updHead_eq_self s (Head.refreshHold_eq_self (hdue.trans hfree.symm))

/-- The reception counts the records and entries that arrive in the buffer. -/
theorem Head.holdDue_receiving (hd : Head) (r : Reception) : ({ hd with reception := some r } : Head).holdDue = true ↔
    32 ≤ hd.laneBuffer.length + (match r with | .receiving _ => 1 | .discarding => 0)
    ∨ (1024 ≤ (hd.laneBuffer.map BufferedRecord.entryCount).sum + (match r with | .receiving n => n | .discarding => 0)
      ∧ (match r with | .receiving n => n | .discarding => 0) ≠ 1024) := by
  rw [Head.holdDue_iff]
  cases r <;> rfl

theorem Reception.arrive_eq (r : Option Reception) : Reception.arrive r = match r with
    | none => .receiving 1
    | some (.receiving n) => if n < 1024 then .receiving (n + 1) else .discarding
    | some .discarding => .discarding := by
  rcases r with _ | n | _
  · rfl
  · by_cases hn : n < 1024
    · exact (if_neg (by simpa [Config.laneEntries] using hn)).trans (if_pos hn).symm
    · exact (if_pos (by simpa [Config.laneEntries] using hn)).trans (if_neg hn).symm
  · rfl

/-- Settles O40, by cases on whether the hold falls due. -/
theorem failEntryArrivalCountsAndHolds : Obligations.FailEntryArrivalCountsAndHolds := by
  unfold Obligations.FailEntryArrivalCountsAndHolds
  intro s h hd arrived records own entries held hsignal hfree hrunning
  let f (x : Head) : Head := { x with reception := some (Reception.arrive x.reception) }
  have harrived : Reception.arrive hd.reception = arrived := Reception.arrive_eq _
  have hf : f hd = { hd with reception := some arrived } := by rw [← harrived]
  have hdue : (f hd).holdDue = true ↔ held := by
    rw [hf]
    exact Head.holdDue_receiving hd arrived
  have hexec : exec (.failEntryArrival h) s = .next ((s.updHead h f).settleLane h) := 
    if_pos ⟨hsignal, ne_of_eq_of_ne hfree Bool.false_ne_true⟩
  have hnot : ¬ Overdue ((s.updHead h f).head h).tracking := by
    rw [State.head_updHead_self]
    exact not_overdue_of_forall hrunning
  have hfree' : ((s.updHead h f).head h).laneHeld = false := by
    rw [State.head_updHead_self]
    exact hfree
  rw [State.settleLane_of_not_overdue hfree' hnot, State.updHead_updHead] at hexec
  refine ⟨_, hexec, State.onlyHead_updHead s h _, rfl, fun hn => ?_, fun hh => ?_⟩
  · rw [State.head_updHead_self]
    have hno : (f hd).holdDue = false := by rwa [← Bool.not_eq_true, hdue]
    exact (Head.refreshHold_eq_self (hno.trans hfree.symm)).trans hf
  · rw [State.head_updHead_self]
    refine (Head.refreshHold_held (hdue.mpr hh) hfree).trans ?_
    rw [hf]
    rfl

end Sys2Proof.Machine
end

section
/-! Result records: the match of a tag, skip-ahead, and the loss that a record reports (5.4, 5.5). -/

namespace Sys2Proof.Machine

/-! ### The match of a tag (R87) -/

theorem matchTag_answered {tag : Byte} {answered q : List TrackEntry} (hanswered : ∀ k ∈ answered, k.deadline = .answered) :
    matchTag tag (answered ++ q) = (matchTag tag q).map (fun m => { m with answered := answered ++ m.answered }) := by
  induction answered with
  | nil => simp
  | cons k answered ih =>
    have hk := TrackEntry.unanswered_eq_false (hanswered k List.mem_cons_self)
    rw [List.cons_append, matchTag, if_neg (by simp [hk]), ih fun x hx => hanswered x (List.mem_cons_of_mem _ hx)]
    simp [hk, Function.comp_def]

theorem matchTag_skipped {tag : Byte} {skipped q : List TrackEntry}
    (hskipped : ∀ k ∈ skipped, k.deadline ≠ .answered ∧ k.tag ≠ tag) :
    matchTag tag (skipped ++ q) = (matchTag tag q).map (fun m => { m with skipped := skipped ++ m.skipped }) := by
  induction skipped with
  | nil => simp
  | cons k skipped ih =>
    obtain ⟨hdeadline, htag⟩ := hskipped k List.mem_cons_self
    have hk := TrackEntry.unanswered_eq_true hdeadline
    rw [List.cons_append, matchTag, if_neg (by simp [htag]), ih fun x hx => hskipped x (List.mem_cons_of_mem _ hx)]
    simp [hk, Function.comp_def]

/-- A queue taken apart at the entry that a tag names is matched so. -/
theorem matchTag_eq_some {tag : Byte} {answered skipped later : List TrackEntry} {e : TrackEntry}
    (hanswered : ∀ k ∈ answered, k.deadline = .answered)
    (hskipped : ∀ k ∈ skipped, k.deadline ≠ .answered ∧ k.tag ≠ tag) (he : e.deadline ≠ .answered) (htag : e.tag = tag) :
    matchTag tag (answered ++ skipped ++ e :: later) = some ⟨answered, skipped, e, later⟩ := by
  rw [List.append_assoc, matchTag_answered hanswered, matchTag_skipped hskipped, matchTag,
    if_pos ⟨TrackEntry.unanswered_eq_true he, htag⟩]
  simp

/-- No entry is matched by a tag that no unanswered entry has. -/
theorem matchTag_eq_none {tag : Byte} {q : List TrackEntry} (hq : ∀ k ∈ q, k.deadline ≠ .answered → k.tag ≠ tag) :
    matchTag tag q = none := by
  induction q with
  | nil => rfl
  | cons k q ih =>
    have hno : ¬ (k.unanswered = true ∧ k.tag = tag) := by
      rintro ⟨hk, htag⟩
      exact hq k List.mem_cons_self (by simpa [TrackEntry.unanswered] using hk) htag
    rw [matchTag, if_neg hno, ih fun x hx => hq x (List.mem_cons_of_mem _ hx), Option.map_none]

/-! ### Skip-ahead and a loss after it (R88, R90, R91) -/

/-- The state with the notice that the SEQUENCE_ERROR of skipped entries makes. -/
def State.skipping (s : State) (h : HeadId) (skipped : List TrackEntry) : State :=
  { s with
    upstream := s.upstream ++ (if skipped = [] then [] else s.noticesFor h .sequenceError (s.head h)
      { s.head h with events := (s.head h).events ||| HeadEvent.sequenceError.bit } 0) }

/-- What skip-ahead, and RESULT_LOSS after it, make of a state: `hd` is the head but for its events. -/
structure State.Reported (s t : State) (h : HeadId) (skipped : List TrackEntry) (lost : Bool) (hd : Head) : Prop where
  onlyHead : s.onlyHead t h
  frame : t = { s with heads := t.heads, upstream := t.upstream }
  upstream : t.upstream = (s.skipping h skipped).upstream
    ++ (if lost then (s.skipping h skipped).noticesFor h .resultLoss (s.head h) (t.head h) 0 else [])
  head : t.head h = { hd with
    events := (s.head h).events ||| (if skipped = [] then 0 else HeadEvent.sequenceError.bit)
      ||| (if lost then HeadEvent.resultLoss.bit else 0) }

theorem State.reported_skipAhead (s : State) (h : HeadId) (skipped : List TrackEntry) :
    s.Reported (s.skipAhead h skipped) h skipped false ((s.head h).loseAll .sequence skipped) := by
  have hzero (x : BitVec 8) : x ||| 0 = x := BitVec.or_zero
  by_cases hskipped : skipped = []
  · subst hskipped
    refine ⟨fun _ _ => rfl, rfl, ?_, ?_⟩
    · simp [State.skipAhead, State.skipping]
    · simp only [if_true, Bool.false_eq_true, if_false, hzero]
      rfl
  · have hevents : ((s.head h).loseAll .sequence skipped).events = (s.head h).events := by rw [Head.loseAll_frame]
    have hmask : ((s.head h).loseAll .sequence skipped).mask = (s.head h).mask := by rw [Head.loseAll_frame]
    have hraised := s.raised_updHead h .sequenceError (Head.loseAll .sequence skipped) hevents hmask
    have heq : s.skipAhead h skipped = (s.updHead h (Head.loseAll .sequence skipped)).raise h .sequenceError :=
      if_neg hskipped
    rw [heq]
    refine ⟨hraised.onlyHead, hraised.frame, ?_, ?_⟩
    · rw [hraised.upstream, hraised.head, State.skipping, hevents, if_neg hskipped, Head.loseAll_frame]
      exact (List.append_nil _).symm
    · rw [hraised.head, hevents, if_neg hskipped, if_neg Bool.false_ne_true, hzero]

/-- A change of the head before a record is offered, other than of its state, events and mask. -/
theorem State.Reported.of_updHead {s t : State} {h : HeadId} {f : Head → Head} {skipped : List TrackEntry} {lost : Bool}
    {hd : Head} (ht : (s.updHead h f).Reported t h skipped lost hd) (hstate : (f (s.head h)).state = (s.head h).state)
    (hevents : (f (s.head h)).events = (s.head h).events) (hmask : (f (s.head h)).mask = (s.head h).mask) :
    s.Reported t h skipped lost hd := by
  have hnotices (e : HeadEvent) (after : Head) (n : Nat) :
      (s.updHead h f).noticesFor h e (f (s.head h)) after n = s.noticesFor h e (s.head h) after n :=
    State.noticesFor_congr after n (by rw [hevents]) hmask rfl rfl rfl rfl
  have hup : ((s.updHead h f).skipping h skipped).upstream = (s.skipping h skipped).upstream := by
    unfold State.skipping
    rw [State.head_updHead_self, hnotices, hevents]
    unfold State.noticesFor
    rw [hstate]
    rfl
  obtain ⟨honly, hframe, hupstream, hhead⟩ := ht
  refine ⟨(State.onlyHead_updHead s h f).trans honly, hframe, ?_, ?_⟩
  · rw [hupstream, hup, State.head_updHead_self]
    refine congrArg (fun x => _ ++ if lost = true then x else []) ?_
    exact State.noticesFor_congr _ _ (by rw [hevents]) hmask rfl hup rfl rfl
  · rw [hhead, State.head_updHead_self, hevents]

/-- A change of the head after what is reported, other than of its state and events. -/
theorem State.Reported.updHead {s t : State} {h : HeadId} {g : Head → Head} {skipped : List TrackEntry} {lost : Bool}
    {hd hd' : Head} (ht : s.Reported t h skipped lost hd)
    (hg : ∀ x, g { hd with events := x } = { hd' with events := x }) (hstate : hd'.state = hd.state) :
    s.Reported (t.updHead h g) h skipped lost hd' := by
  have hhead : (t.updHead h g).head h = { hd' with events := (t.head h).events } := by
    rw [State.head_updHead_self, ht.head, hg]
  refine ⟨ht.onlyHead.trans (State.onlyHead_updHead t h g), ?_, ht.upstream.trans ?_, ?_⟩
  · rw [ht.frame]
    rfl
  · unfold State.noticesFor
    rw [hhead, ht.head]
    dsimp only
    rw [hstate]
  · rw [hhead, ht.head]

/-- A loss is reported after skip-ahead, with its own notice. -/
theorem State.Reported.lose {s t : State} {h : HeadId} {skipped : List TrackEntry} {hd : Head}
    (ht : s.Reported t h skipped false hd) (hmask : hd.mask = (s.head h).mask) (c : LossCause) (field : BitVec 16) :
    s.Reported (t.lose h c field .resultLoss) h skipped true (Head.lose c field hd) := by
  have hzero (x : BitVec 8) : x ||| 0 = x := BitVec.or_zero
  have hraised := t.raised_updHead h .resultLoss (Head.lose c field) rfl rfl
  have hevents : (t.head h).events
      = (s.head h).events ||| (if skipped = [] then 0 else HeadEvent.sequenceError.bit) := by
    rw [ht.head]
    exact hzero _
  have hin : HeadEvent.resultLoss.isIn (t.head h).events = HeadEvent.resultLoss.isIn (s.head h).events := by
    rw [hevents]
    split_ifs
    · rw [hzero]
    · rw [HeadEvent.isIn_or_bit]
      exact Bool.or_false _
  have hup : t.upstream = (s.skipping h skipped).upstream := ht.upstream.trans (List.append_nil _)
  have hsame : (t.head h).mask = (s.head h).mask := by
    rw [ht.head]
    exact hmask
  obtain ⟨honly, hframe, hupstream, hhead⟩ := hraised
  refine ⟨ht.onlyHead.trans honly, hframe.trans ?_, ?_, hhead.trans ?_⟩
  · rw [ht.frame]
    rfl
  · refine hupstream.trans ?_
    rw [hup]
    refine congrArg (_ ++ ·) (State.noticesFor_congr _ _ hin hsame ?_ hup ?_ ?_) <;> rw [ht.frame] <;> rfl
  · have hkept : (Head.lose c field (t.head h)).events = (t.head h).events := rfl
    rw [hkept, hevents, ht.head]
    rfl

/-! ### The sites after a loss -/

/-- The sites take the causes that skip-ahead and a loss after it report for them. -/
theorem Head.site_loseAll_lose (hd : Head) (skipped : List TrackEntry) (c : LossCause) (field : BitVec 16) (i : SiteId) :
    (Head.lose c field (hd.loseAll .sequence skipped)).site i
      = if (hd.site i).enabled = true ∧ (hd.site i).verdict.isFinal = false then
          { hd.site i with causes := (hd.site i).causes
              ||| ((if skipped.any (fun k => k.sites.getLsbD i.val) then LossCause.sequence.bit else 0)
                ||| (if field.getLsbD i.val then c.bit else 0)) }
        else hd.site i := by
  rw [Head.site_lose, Head.site_loseAll]
  generalize hd.site i = st
  by_cases hlive : st.enabled = true ∧ st.verdict.isFinal = false
  · cases st
    cases skipped.any (fun k => k.sites.getLsbD i.val) <;> cases field.getLsbD i.val <;>
      simp_all [BitVec.or_assoc]
  · simp only [hlive, and_false, if_false]

end Sys2Proof.Machine
end

section
/-! RESULT_RECORD, a record that is not taken (2.9, 5.4, 5.5, 10.5). -/

namespace Sys2Proof.Machine

/-! ### The count of the lane (R165) -/

theorem CheckMode.entrySize_eq_ite (mode : CheckMode) : mode.entrySize = if mode = .none then 3 else 4 := by
  cases mode <;> rfl

theorem countEntries_cons (mode : CheckMode) (tag flags : Byte) (bs : List Byte) :
    countEntries mode (tag :: flags :: bs) = countSections mode.entrySize (flags.toNat % 32) bs := by
  simp [countEntries, byteAt]

/-- Whole sections count in full, and of what follows them what the lane counts there. -/
theorem countEntries_whole {mode : CheckMode} {parts : List (List Byte)} (tag flags : Byte) (tail : List Byte) {n : Nat}
    (hparts : ∀ part ∈ parts, WholeSection mode.entrySize part) (hn : flags.toNat % 32 = parts.length + n) :
    countEntries mode (tag :: flags :: (parts.flatten ++ tail))
      = (parts.map (fun part => (part.length - 3) / mode.entrySize)).sum + countSections mode.entrySize n tail := by
  rw [countEntries_cons, hn, countSections_whole mode.entrySize_pos tail n hparts]

/-- A section cut off counts as many whole entries as are there. -/
theorem countSections_cut {size n : Nat} (site high low : Byte) {entries : List Byte}
    (hcut : entries.length < (high.toNat * 256 + low.toNat) * size) :
    countSections size (n + 1) (site :: high :: low :: entries) = entries.length / size := by
  rw [countSections_cons, List.drop_eq_nil_of_le hcut.le, countSections_short _ _ (by simp), Nat.add_zero]
  exact min_eq_right (Nat.div_le_of_le_mul (by rw [Nat.mul_comm]; exact hcut.le))

/-! ### Records that are not offered or not matched -/

/-- A buffer that does not hold its lane does not do so with its reception gone. -/
theorem Head.holdDue_of_none {hd : Head} (hcap : hd.CapacityInv) (hfree : hd.laneHeld = false) {hd' : Head}
    (hbuffer : hd'.laneBuffer = hd.laneBuffer) (hreception : hd'.reception = none) : hd'.holdDue = false := by
  have hdue : ¬ hd.holdDue = true := by rw [← hcap.held, hfree]; exact Bool.false_ne_true
  have hentries := hcap.entries
  rw [Head.holdDue_iff] at hdue
  rw [← Bool.not_eq_true, Head.holdDue_iff]
  simp only [Head.bufferRecords, Head.bufferEntries, Head.receivedEntries, hbuffer, hreception, Config.laneEntries] at *
  omega

theorem Head.letsEnd_of {hd : Head} {unit : List Byte} (hsignal : hd.laneSignal = true) (hfree : hd.laneHeld = false)
    (hpass : hd.reception = some .discarding ∨ countEntries hd.setup.checkMode unit ≤ hd.receivedEntries
      ∨ (hd.laneBuffer.length + 1 < 32 ∧ (hd.laneBuffer.map BufferedRecord.entryCount).sum
        + min (countEntries hd.setup.checkMode unit) 1023 < 1024)) : hd.letsEnd unit = true := by
  unfold Head.letsEnd Head.letsPass
  simp only [hsignal, hfree, Bool.not_false, Bool.and_self, Bool.true_and, Bool.or_eq_true, Bool.and_eq_true,
    beq_iff_eq, decide_eq_true_iff]
  exact hpass

theorem exec_resultRecord {s : State} {h : HeadId} {unit : List Byte} (hends : (s.head h).letsEnd unit = true) :
    exec (.resultRecord h unit) s = .next ((s.endRecord h unit).settleLane h) := if_pos hends

/-- The state at the end of a unit, with the record under reception gone. -/
def State.ended (s : State) (h : HeadId) : State := s.updHead h (fun hd => { hd with reception := none })

theorem State.head_ended (s : State) (h : HeadId) : (s.ended h).head h = { s.head h with reception := none } :=
  State.head_updHead_self ..

theorem State.endRecord_of_dropped {s : State} {h : HeadId} {unit : List Byte}
    (hdrop : (s.head h).reception = some .discarding ∨ unit.length < 3
      ∨ 1024 < countEntries (s.head h).setup.checkMode unit) : s.endRecord h unit = s.ended h := if_pos hdrop

theorem State.endRecord_of_offered {s : State} {h : HeadId} {unit : List Byte}
    (hreception : (s.head h).reception ≠ some .discarding) (hlen : 3 ≤ unit.length)
    (hcount : countEntries (s.head h).setup.checkMode unit ≤ 1024) :
    s.endRecord h unit = (s.ended h).offerRecord h unit := by
  refine if_neg ?_
  rintro (hdrop | hdrop | hdrop)
  · exact hreception hdrop
  · omega
  · exact absurd hcount (Nat.not_le.mpr hdrop)

theorem State.offerRecord_of_stray {s : State} {h : HeadId} {unit : List Byte}
    (hno : ¬ ((s.head h).state = .testing ∨ (s.head h).state = .draining)
      ∨ (∀ k ∈ (s.head h).tracking, k.deadline ≠ .answered → k.tag ≠ byteAt unit 0)) :
    s.offerRecord h unit = s.stray h := by
  unfold State.offerRecord
  dsimp only
  split_ifs with hcollecting
  · rw [HeadState.collecting_iff] at hcollecting
    rw [matchTag_eq_none (hno.resolve_left fun hn => hn hcollecting)]
  · rfl

/-- The record of a matched entry that fails its framing check. -/
theorem State.offerRecord_of_framing {s : State} {h : HeadId} {unit : List Byte} {m : Matched}
    (hstate : (s.head h).state = .testing ∨ (s.head h).state = .draining)
    (hm : matchTag (byteAt unit 0) (s.head h).tracking = some m)
    (hread : readRecord (s.head h).setup.checkMode unit = none) :
    s.offerRecord h unit = (s.skipAhead h m.skipped).framingFailure h m := by
  unfold State.offerRecord
  dsimp only
  rw [if_pos ((HeadState.collecting_iff _).mpr hstate), hm, hread]

/-- The record of a matched entry that passes its framing check. -/
theorem State.offerRecord_of_taken {s : State} {h : HeadId} {unit : List Byte} {m : Matched} {secs : List RecordSection}
    (hstate : (s.head h).state = .testing ∨ (s.head h).state = .draining)
    (hm : matchTag (byteAt unit 0) (s.head h).tracking = some m)
    (hread : readRecord (s.head h).setup.checkMode unit = some secs) :
    s.offerRecord h unit
      = (s.skipAhead h m.skipped).acceptRecord h m (overflowFlag unit) (byteAt unit 0) secs := by
  unfold State.offerRecord
  dsimp only
  rw [if_pos ((HeadState.collecting_iff _).mpr hstate), hm, hread]

/-! ### The end of a record, and its lane -/

/-- A drain test leaves the lane of its head as it is. -/
theorem State.lane_testDrain (s : State) (h : HeadId) : ((s.testDrain h).head h).laneHeld = (s.head h).laneHeld
    ∧ ((s.testDrain h).head h).holdDue = (s.head h).holdDue := by
  rcases s.testDrain_cases h with ⟨heq, -⟩ | ⟨heq, -⟩
  · rw [heq, State.head_endDraining_self, Head.drained_frame]
    exact ⟨rfl, rfl⟩
  · rw [heq]
    exact ⟨rfl, rfl⟩

/-- The lane of a head that is not held and not to be held stays so after a drain test, and no entry expires. -/
theorem State.settleLane_testDrain {s : State} {h : HeadId} (hfree : (s.head h).laneHeld = false)
    (hdue : (s.head h).holdDue = false) (hnot : ¬ Overdue (s.head h).tracking) :
    (s.testDrain h).settleLane h = s.testDrain h := by
  obtain ⟨hheld, hsame⟩ := s.lane_testDrain h
  exact State.settleLane_of_released (hheld.trans hfree) (hsame.trans hdue) (by rwa [State.tracking_testDrain])

/-- The head after a matched record has failed its framing check, but for its events. -/
def Head.misframed (hd : Head) (m : Matched) : Head :=
  Head.lose .framing m.entry.sites
    { hd.loseAll .sequence m.skipped with reception := none, tracking := m.answered ++ m.later }

theorem Head.misframed_eq (hd : Head) (m : Matched) : hd.misframed m = { hd with
    reception := none, tracking := m.answered ++ m.later
    sites := tabulate (fun i => if (hd.site i).enabled = true ∧ (hd.site i).verdict.isFinal = false then
      { hd.site i with causes := (hd.site i).causes
          ||| ((if m.skipped.any (fun k => k.sites.getLsbD i.val) then LossCause.sequence.bit else 0)
            ||| (if m.entry.sites.getLsbD i.val then LossCause.framing.bit else 0)) }
      else hd.site i) } := by
  have hsites : (Head.lose .framing m.entry.sites (hd.loseAll .sequence m.skipped)).sites = _ :=
    Head.sites_eq_tabulate (Head.site_loseAll_lose hd m.skipped .framing m.entry.sites)
  rw [← hsites]
  unfold Head.misframed
  rw [Head.loseAll_frame]
  rfl

theorem Head.loseAll_set_reception (hd : Head) (c : LossCause) (es : List TrackEntry) (r : Option Reception) :
    ({ hd with reception := r } : Head).loseAll c es = { hd.loseAll c es with reception := r } := by
  induction es generalizing hd with
  | nil => rfl
  | cons e es ih => exact ih (Head.lose c e.sites hd)

/-- Skip-ahead at the end of a unit. -/
theorem State.reported_ended (s : State) (h : HeadId) (skipped : List TrackEntry) :
    s.Reported ((s.ended h).skipAhead h skipped) h skipped false
      { (s.head h).loseAll .sequence skipped with reception := none } := by
  have hskip := (s.ended h).reported_skipAhead h skipped
  rw [State.head_ended, Head.loseAll_set_reception] at hskip
  exact hskip.of_updHead rfl rfl rfl

theorem State.framingFailure_ended {s : State} {h : HeadId} {m : Matched}
    (hrunning : ∀ k ∈ m.answered ++ m.later, k.deadline ≠ .running 0) :
    ∃ u, ((s.ended h).skipAhead h m.skipped).framingFailure h m = u.testDrain h
      ∧ s.Reported u h m.skipped true ((s.head h).misframed m) := by
  have hset := (s.reported_ended h m.skipped).updHead (g := fun hd => { hd with tracking := m.answered ++ m.later })
    (hd' := { (s.head h).loseAll .sequence m.skipped with reception := none, tracking := m.answered ++ m.later })
    (fun _ => rfl) rfl
  have hlose := hset.lose (by rw [Head.loseAll_frame]) .framing m.entry.sites
  refine ⟨_, congrArg (State.testDrain · h) (State.settleDeadlines_eq_self ?_), hlose⟩
  rw [hlose.head]
  exact not_overdue_of_forall hrunning

/-- The parts of the head that a misframed record leaves, and the queue. -/
theorem State.Reported.lane_misframed {s u : State} {h : HeadId} {m : Matched}
    (hu : s.Reported u h m.skipped true ((s.head h).misframed m)) :
    (u.head h).laneHeld = (s.head h).laneHeld ∧ (u.head h).laneBuffer = (s.head h).laneBuffer
      ∧ (u.head h).reception = none ∧ (u.head h).tracking = m.answered ++ m.later
      ∧ (u.head h).state = (s.head h).state := by
  rw [hu.head, Head.misframed_eq]
  exact ⟨rfl, rfl, rfl, rfl, rfl⟩

/-- Settles O39: the count by the rule on whole sections, the record by the cases of what becomes of it. -/
theorem resultRecordIsDiscarded : Obligations.ResultRecordIsDiscarded := by
  unfold Obligations.ResultRecordIsDiscarded
  constructor
  · intro mode tag flags parts tail size full counted hparts
    have hsize : size = mode.entrySize := mode.entrySize_eq_ite.symm
    clear_value size
    subst hsize
    refine ⟨fun hn => ?_, fun hn => ?_⟩
    · exact countEntries_whole (n := 0) tag flags tail hparts hn.symm
    · obtain ⟨n, hn⟩ : ∃ n, flags.toNat % 32 = parts.length + (n + 1) := ⟨flags.toNat % 32 - parts.length - 1, by omega⟩
      have hcounted := countEntries_whole tag flags tail hparts hn
      refine ⟨fun htail => hcounted.trans ?_, fun site high low entries heq hcut => hcounted.trans ?_⟩
      · rw [countSections_short _ _ htail, Nat.add_zero]
      · rw [heq, countSections_cut site high low hcut]
  · intro s h unit hd collecting entries hcap hsignal hfree hrunning hpass
    have hexec := exec_resultRecord (Head.letsEnd_of hsignal hfree hpass)
    have hsettle {t : State} (hheld : (t.head h).laneHeld = hd.laneHeld) (hbuffer : (t.head h).laneBuffer = hd.laneBuffer)
        (hreception : (t.head h).reception = none) (htrack : (t.head h).tracking = hd.tracking) : t.settleLane h = t :=
      State.settleLane_of_released (hheld.trans hfree) (Head.holdDue_of_none hcap hfree hbuffer hreception)
        (by rw [htrack]; exact not_overdue_of_forall hrunning)
    have hended := s.head_ended h
    have hstray : ((s.ended h).stray h).head h = { hd with reception := none, strays := min (hd.strays + 1) 65535 } := by
      rw [State.stray, State.head_updHead_self, hended]
      rfl
    refine ⟨_, hexec, (State.endRecord_moves s h unit).onlyHead.trans (State.settleLane_moves _ h).onlyHead, fun hdrop => ?_,
      fun hreception hlen hcount => ?_⟩
    · rw [State.endRecord_of_dropped hdrop,
          hsettle (by rw [hended]) (by rw [hended]) (by rw [hended]) (by rw [hended])]
      exact ⟨rfl, hended⟩
    · rw [State.endRecord_of_offered hreception hlen hcount]
      refine ⟨fun hno => ?_, fun answered skipped e later hstate htrack hanswered hskipped he htag hread => ?_⟩
      · rw [State.offerRecord_of_stray (by rw [hended]; exact hno),
          hsettle (by rw [hstray]) (by rw [hstray]) (by rw [hstray]) (by rw [hstray])]
        exact ⟨rfl, hstray⟩
      · intro skips causes
        have hm := matchTag_eq_some (later := later) hanswered hskipped he htag
        rw [← htrack] at hm
        have hleft : ∀ k ∈ answered ++ later, k.deadline ≠ .running 0 := fun k hk =>
          hrunning k (by rw [htrack]; simp at hk ⊢; tauto)
        obtain ⟨u, hu, hreport⟩ := State.framingFailure_ended (s := s) (h := h) (m := ⟨answered, skipped, e, later⟩) hleft
        obtain ⟨hheld, hbuffer, hgone, hqueue, hsame⟩ := hreport.lane_misframed
        rw [State.offerRecord_of_framing (by rw [hended]; exact hstate) (by rw [hended]; exact hm)
          (by rw [hended]; exact hread), hu, State.settleLane_testDrain (hheld.trans hfree)
          (Head.holdDue_of_none hcap hfree hbuffer hgone) (by rw [hqueue]; exact not_overdue_of_forall hleft)]
        refine ⟨u, rfl, fun htest => State.testDrain_eq_self (.inl ?_), hreport.onlyHead, hreport.frame,
          hreport.upstream, ?_⟩
        · rw [hsame]
          exact ne_of_eq_of_ne htest (by decide)
        · rw [hreport.head, Head.misframed_eq]
          rfl

end Sys2Proof.Machine
end

section
/-! The intake's way to the next entry of a lane buffer, and the hold of the lane after it (5.6, 2.9). -/

namespace Sys2Proof.Machine

/-! ### The hold of the lane and the drain test -/

/-- The head with its lane held or not, and its deadlines as they are. -/
def Head.setHeld (held : Bool) (hd : Head) : Head := { hd with laneHeld := held }

/-- With no tracking entry the hold of the lane changes alone. -/
theorem Head.refreshHold_of_empty {hd : Head} (hempty : hd.tracking = []) : hd.refreshHold = hd.setHeld hd.holdDue := by
  by_cases hsame : hd.holdDue = hd.laneHeld
  · rw [Head.refreshHold_eq_self hsame, hsame]
    rfl
  · unfold Head.refreshHold
    rw [if_neg hsame, hempty, List.map_nil, ← hempty]
    rfl

theorem Head.refreshHold_frame (hd : Head) : hd.refreshHold.state = hd.state
    ∧ (hd.refreshHold.tracking = [] ↔ hd.tracking = []) ∧ hd.refreshHold.generation = hd.generation := by
  unfold Head.refreshHold
  split
  · exact ⟨rfl, Iff.rfl, rfl⟩
  · exact ⟨rfl, List.map_eq_nil_iff, rfl⟩

theorem Head.holdDue_drained (hd : Head) (jobs : List SolveJob) : (hd.drained jobs).holdDue = hd.holdDue := by
  rw [Head.drained_frame]
  rfl

theorem State.endDraining_setHeld (s : State) (h : HeadId) (held : Bool) :
    (s.updHead h (Head.setHeld held)).endDraining h = (s.endDraining h).updHead h (Head.setHeld held) := by
  have hjobs : (s.updHead h (Head.setHeld held)).drainJobs h = s.drainJobs h := by
    simp only [State.drainJobs, State.head_updHead_self]
    rfl
  have hhead : ((s.updHead h (Head.setHeld held)).endDraining h).head h
      = ((s.endDraining h).updHead h (Head.setHeld held)).head h := by
    rw [State.head_endDraining_self, State.head_updHead_self, State.head_updHead_self, State.head_endDraining_self, hjobs]
    rfl
  have hheads : ((s.updHead h (Head.setHeld held)).endDraining h).heads
      = ((s.endDraining h).updHead h (Head.setHeld held)).heads := State.heads_ext fun k => by
    by_cases hk : k = h
    · rw [hk, hhead]
    · rw [State.onlyHead_endDraining _ h k hk, State.head_updHead_ne _ _ hk, State.head_updHead_ne _ _ hk,
        State.onlyHead_endDraining _ h k hk]
  have hup : ((s.updHead h (Head.setHeld held)).endDraining h).upstream = (s.endDraining h).upstream := by
    rw [State.upstream_endDraining, State.upstream_endDraining, hhead, hjobs, State.head_updHead_self,
      State.head_updHead_self]
    rfl
  have hlist : ((s.updHead h (Head.setHeld held)).endDraining h).solveList = (s.endDraining h).solveList := by
    rw [State.solveList_endDraining, State.solveList_endDraining, hjobs]
    rfl
  have hframe : (s.endDraining h).updHead h (Head.setHeld held) = { s with
      heads := ((s.endDraining h).updHead h (Head.setHeld held)).heads
      upstream := (s.endDraining h).upstream, solveList := (s.endDraining h).solveList } :=
    congrArg (fun x : State => { x with heads := ((s.endDraining h).updHead h (Head.setHeld held)).heads })
      (s.endDraining_frame h)
  rw [State.endDraining_frame, hheads, hup, hlist, hframe]
  rfl

/-- The lane is held or released alike before and after a drain test. -/
theorem State.testDrain_refreshHold (s : State) (h : HeadId) :
    (s.updHead h Head.refreshHold).testDrain h = (s.testDrain h).updHead h Head.refreshHold := by
  rcases s.testDrain_cases h with ⟨heq, hstate, hempty, hitems⟩ | ⟨heq, hno⟩
  · have hheld : s.updHead h Head.refreshHold = s.updHead h (Head.setHeld (s.head h).holdDue) :=
      State.updHead_congr s (Head.refreshHold_of_empty hempty)
    have hend : (s.updHead h (Head.setHeld (s.head h).holdDue)).testDrain h
        = (s.updHead h (Head.setHeld (s.head h).holdDue)).endDraining h := by
      refine if_pos ?_
      unfold State.itemsLive at *
      rw [State.head_updHead_self]
      exact ⟨hstate, hempty, hitems⟩
    rw [hheld, hend, State.endDraining_setHeld, heq]
    refine State.updHead_congr _ ?_
    rw [Head.refreshHold_of_empty, State.head_endDraining_self, Head.holdDue_drained]
    rw [State.head_endDraining_self, Head.drained_frame]
    exact hempty
  · rw [heq]
    refine if_neg ?_
    unfold State.itemsLive at *
    obtain ⟨hstate, hqueue, hgeneration⟩ := (s.head h).refreshHold_frame
    rw [State.head_updHead_self, hstate, hqueue, hgeneration]
    exact hno

theorem State.laneBuffer_testDrain (s : State) (h : HeadId) :
    ((s.testDrain h).head h).laneBuffer = (s.head h).laneBuffer := by
  rcases s.testDrain_cases h with ⟨heq, -⟩ | ⟨heq, -⟩
  · rw [heq, State.head_endDraining_self, Head.drained_frame]
  · rw [heq]

/-! ### The way to the next entry (R92, R99) -/

/-- The intake has come to an entry: the front record, if there is one, begins with it. -/
def FrontReady (l : List BufferedRecord) : Prop :=
  ∀ r more, l = r :: more → ∃ sec secs, r.sections = sec :: secs ∧ sec.entries ≠ []

theorem State.advance_of_ready {s : State} {h : HeadId} (hready : FrontReady (s.head h).laneBuffer) (n : Nat) :
    State.advance n s h = s := by
  cases n with
  | zero => rfl
  | succ n =>
    unfold State.advance
    cases hbuf : (s.head h).laneBuffer with
    | nil => rfl
    | cons r more =>
      obtain ⟨sec, secs, hsecs, hentries⟩ := hready r more hbuf
      obtain ⟨e, es, hes⟩ := List.exists_cons_of_ne_nil hentries
      dsimp only
      rw [hsecs]
      dsimp only
      rw [hes]

/-- The lane buffer and the tracking queue with the front record's sections `l` left. -/
def leftBuffer (tag : Byte) (buf : List BufferedRecord) (l : List RecordSection) : List BufferedRecord :=
  if l = [] then buf else ⟨tag, l⟩ :: buf

def Head.setBuffer (buffer : List BufferedRecord) (hd : Head) : Head := { hd with laneBuffer := buffer }

/-- A section without entries for a site of the snapshot is passed over (R92). -/
theorem State.passEmptySection_eq {s : State} {h : HeadId} {te : TrackEntry} {others : List TrackEntry} {i : SiteId}
    (htrack : (s.head h).tracking = te :: others) (hte : te.deadline = .answered) (hi : te.sites.getLsbD i.val = true) :
    s.passEmptySection h i = s.updHead h (fun hd => { hd with laneBuffer := dropSection hd.laneBuffer }) := by
  have hfront : frontEntry (s.head h).tracking = some te := by
    rw [htrack]
    exact List.find?_cons_of_pos (by simp [TrackEntry.unanswered, hte])
  unfold State.passEmptySection
  rw [hfront]
  exact if_pos hi

theorem State.advance_empty {s : State} {h : HeadId} {te : TrackEntry} {others : List TrackEntry}
    (htrack : (s.head h).tracking = te :: others) (hte : te.deadline = .answered) {tag : Byte}
    {buf : List BufferedRecord} {l : List RecordSection} (empties : List RecordSection)
    (hempties : ∀ sec ∈ empties, sec.entries = [] ∧ te.sites.getLsbD sec.site.val = true)
    (hbuf : (s.head h).laneBuffer = ⟨tag, empties ++ l⟩ :: buf) (n : Nat) :
    State.advance (empties.length + n) s h
      = State.advance n (s.updHead h (Head.setBuffer (⟨tag, l⟩ :: buf))) h := by
  induction empties generalizing s with
  | nil =>
    rw [State.updHead_eq_self s (f := Head.setBuffer _) (by unfold Head.setBuffer; rw [← List.nil_append l, ← hbuf])]
    simp
  | cons sec empties ih =>
    obtain ⟨hentries, hsite⟩ := hempties sec List.mem_cons_self
    have hpass : State.advance ((sec :: empties).length + n) s h
        = State.advance (empties.length + n) (s.passEmptySection h sec.site) h := by
      rw [List.length_cons, Nat.add_right_comm]
      conv_lhs => unfold State.advance
      rw [hbuf]
      dsimp only [List.cons_append]
      rw [hentries]
    have hnow := State.passEmptySection_eq htrack hte hsite
    rw [hpass, hnow, ih (s := s.updHead h _) (by rw [State.head_updHead_self]; exact htrack)
      (fun x hx => hempties x (List.mem_cons_of_mem _ hx)) (by rw [State.head_updHead_self, hbuf]; rfl),
      State.updHead_updHead]
    rfl

/-- The head when the intake has gone on with the front record's sections `l` left, its lane held or released. -/
def Head.afterIntake (tag : Byte) (buf : List BufferedRecord) (others : List TrackEntry) (l : List RecordSection)
    (hd : Head) : Head :=
  ({ hd with
    laneBuffer := leftBuffer tag buf l
    tracking := if l = [] then others else hd.tracking } : Head).refreshHold

/-- The intake goes on over sections without entries to the next entry, finishing with the front record when no section
is left of it (R92, R99). -/
theorem State.settleIntake_eq {s : State} {h : HeadId} {te : TrackEntry} {others : List TrackEntry}
    (htrack : (s.head h).tracking = te :: others) (hte : te.deadline = .answered) {tag : Byte}
    {buf : List BufferedRecord} {l : List RecordSection} (empties : List RecordSection)
    (hempties : ∀ sec ∈ empties, sec.entries = [] ∧ te.sites.getLsbD sec.site.val = true)
    (hbuf : (s.head h).laneBuffer = ⟨tag, empties ++ l⟩ :: buf) (hready : FrontReady (leftBuffer tag buf l)) :
    s.settleIntake h = (if l = [] then (s.updHead h (Head.afterIntake tag buf others l)).testDrain h
      else s.updHead h (Head.afterIntake tag buf others l)).settleDeadlines h := by
  obtain ⟨n, hn⟩ : ∃ n, bufferBound (s.head h).laneBuffer = empties.length + (n + 1) := by
    refine ⟨l.length + bufferBound buf, ?_⟩
    rw [hbuf]
    simp [bufferBound]
    omega
  unfold State.settleIntake State.settleLane
  rw [hn, State.advance_empty htrack hte empties hempties hbuf]
  refine congrArg (State.settleDeadlines · h) ?_
  by_cases hl : l = []
  · subst hl
    have hdrop : dropFirstAnswered (s.head h).tracking = others := by
      rw [htrack]
      exact if_neg (by simp [TrackEntry.unanswered, hte])
    have hcomplete : (s.updHead h (Head.setBuffer (⟨tag, []⟩ :: buf))).completeRecord h
        = (s.updHead h (fun hd => { hd with laneBuffer := buf, tracking := others })).testDrain h := by
      unfold State.completeRecord
      rw [State.updHead_updHead]
      refine congrArg (State.testDrain · h) (State.updHead_congr s ?_)
      change ({ s.head h with laneBuffer := buf, tracking := dropFirstAnswered (s.head h).tracking } : Head) = _
      rw [hdrop]
    have hstep : State.advance (n + 1) (s.updHead h (Head.setBuffer (⟨tag, []⟩ :: buf))) h
        = (s.updHead h (fun hd => { hd with laneBuffer := buf, tracking := others })).testDrain h := by
      conv_lhs => unfold State.advance
      rw [State.head_updHead_self]
      dsimp only [Head.setBuffer]
      rw [← hcomplete]
      refine State.advance_of_ready ?_ _
      rw [hcomplete, State.laneBuffer_testDrain, State.head_updHead_self]
      exact hready
    rw [hstep, if_pos rfl, ← State.testDrain_refreshHold, State.updHead_updHead]
    rfl
  · rw [if_neg hl, State.advance_of_ready, State.updHead_updHead]
    · refine State.updHead_congr s ?_
      unfold Head.afterIntake
      rw [if_neg hl, leftBuffer, if_neg hl]
      rfl
    · rw [State.head_updHead_self]
      rwa [leftBuffer, if_neg hl] at hready

end Sys2Proof.Machine
end

section
/-! RESULT_RECORD, a record that passes (5.4, 5.5). -/

namespace Sys2Proof.Machine

/-- The head after a matched record has joined its lane buffer, but for its events. -/
def Head.recorded (hd : Head) (m : Matched) (overflow : Bool) (buffer : List BufferedRecord) (queue : List TrackEntry) :
    Head :=
  { (if overflow then Head.lose .headOverflow m.entry.sites (hd.loseAll .sequence m.skipped)
      else hd.loseAll .sequence m.skipped) with
    reception := none, laneBuffer := buffer, tracking := queue }

theorem Head.recorded_eq (hd : Head) (m : Matched) (overflow : Bool) (buffer : List BufferedRecord)
    (queue : List TrackEntry) : hd.recorded m overflow buffer queue = { hd with
      reception := none, laneBuffer := buffer, tracking := queue
      sites := tabulate (fun i => if (hd.site i).enabled = true ∧ (hd.site i).verdict.isFinal = false then
        { hd.site i with causes := (hd.site i).causes
            ||| ((if m.skipped.any (fun k => k.sites.getLsbD i.val) then LossCause.sequence.bit else 0)
              ||| (if overflow && m.entry.sites.getLsbD i.val then LossCause.headOverflow.bit else 0)) }
        else hd.site i) } := by
  have hsites : (Head.lose .headOverflow (if overflow then m.entry.sites else 0) (hd.loseAll .sequence m.skipped)).sites
      = tabulate _ := Head.sites_eq_tabulate (Head.site_loseAll_lose hd m.skipped .headOverflow _)
  cases overflow with
  | true =>
    simp only [if_true, Bool.true_and] at hsites ⊢
    rw [← hsites]
    unfold Head.recorded
    rw [if_pos rfl, Head.loseAll_frame]
    rfl
  | false =>
    have hnone : (Head.lose .headOverflow 0 (hd.loseAll .sequence m.skipped)).sites
        = (hd.loseAll .sequence m.skipped).sites := Vector.ext fun i hi =>
      (Head.site_lose _ .headOverflow 0 ⟨i, hi⟩).trans (if_neg (by simp))
    have hzero (n : Nat) : (0 : BitVec 16).getLsbD n = false := BitVec.getLsbD_zero
    simp only [Bool.false_eq_true, if_false, Bool.false_and, hzero] at hsites ⊢
    rw [← hsites, hnone]
    unfold Head.recorded
    rw [if_neg Bool.false_ne_true, Head.loseAll_frame]

/-- A record that is accepted after skip-ahead waits in the buffer, its entry ANSWERED and its overflow reported. -/
theorem State.acceptRecord_ended {s : State} {h : HeadId} {m : Matched} (overflow : Bool) (tag : Byte)
    (secs : List RecordSection) (hanswered : ∀ k ∈ m.answered, k.deadline = .answered)
    (hlater : ∀ k ∈ m.later, k.deadline ≠ .running 0) :
    ∃ u, ((s.ended h).skipAhead h m.skipped).acceptRecord h m overflow tag secs = u.settleIntake h
      ∧ s.Reported u h m.skipped overflow ((s.head h).recorded m overflow ((s.head h).laneBuffer ++ [⟨tag, secs⟩])
        (m.answered ++ { m.entry with deadline := .answered } :: m.later)) := by
  have hnot : ∀ k ∈ m.answered ++ { m.entry with deadline := .answered } :: m.later, k.deadline ≠ .running 0 := by
    intro k hk
    rcases List.mem_append.mp hk with hk | hk
    · simp [hanswered k hk]
    · rcases List.mem_cons.mp hk with rfl | hk
      · simp
      · exact hlater k hk
  have hset := (s.reported_ended h m.skipped).updHead (g := fun hd => { hd with
      tracking := m.answered ++ { m.entry with deadline := .answered } :: m.later
      laneBuffer := hd.laneBuffer ++ [⟨tag, secs⟩] })
    (hd' := (s.head h).recorded m false ((s.head h).laneBuffer ++ [⟨tag, secs⟩])
        (m.answered ++ { m.entry with deadline := .answered } :: m.later))
    (fun x => by unfold Head.recorded; rw [Head.loseAll_frame]; rfl) rfl
  unfold State.acceptRecord
  dsimp only
  rw [State.settleDeadlines_eq_self (by rw [hset.head]; exact not_overdue_of_forall hnot)]
  cases overflow with
  | false => exact ⟨_, rfl, hset⟩
  | true => exact ⟨_, rfl, hset.lose (by rw [Head.recorded_eq]) .headOverflow m.entry.sites⟩

/-- With the lane released the record changes nothing of the hold. -/
theorem State.Reported.settleLane_recorded {s u : State} {h : HeadId} {m : Matched} {overflow : Bool}
    {buffer : List BufferedRecord} {queue : List TrackEntry}
    (hu : s.Reported u h m.skipped overflow ((s.head h).recorded m overflow buffer queue))
    (hfree : (s.head h).laneHeld = false) (hrecords : buffer.length < 32)
    (hentries : (buffer.map BufferedRecord.entryCount).sum < 1024) (hqueue : ∀ k ∈ queue, k.deadline ≠ .running 0) :
    (u.head h).laneHeld = false ∧ (u.head h).holdDue = false ∧ ¬ Overdue (u.head h).tracking := by
  have hdue : ¬ (u.head h).holdDue = true := by
    rw [Head.holdDue_iff, hu.head, Head.recorded_eq]
    simp only [Head.bufferRecords, Head.bufferEntries, Head.receivedEntries]
    omega
  refine ⟨?_, Bool.not_eq_true _ ▸ hdue, ?_⟩
  · rw [hu.head, Head.recorded_eq]
    exact hfree
  · rw [hu.head, Head.recorded_eq]
    exact not_overdue_of_forall hqueue

/-- The intake goes on in a recorded head with no lane held: the buffer and the queue alone change. -/
theorem State.Reported.afterIntake_recorded {s u : State} {h : HeadId} {m : Matched} {overflow : Bool}
    {buffer : List BufferedRecord} {queue : List TrackEntry}
    (hu : s.Reported u h m.skipped overflow ((s.head h).recorded m overflow buffer queue))
    (hfree : (s.head h).laneHeld = false) (tag : Byte) (buf : List BufferedRecord) (others : List TrackEntry)
    (l : List RecordSection) (hrecords : (leftBuffer tag buf l).length < 32)
    (hentries : ((leftBuffer tag buf l).map BufferedRecord.entryCount).sum < 1024) :
    s.Reported (u.updHead h (Head.afterIntake tag buf others l)) h m.skipped overflow
      ((s.head h).recorded m overflow (leftBuffer tag buf l) (if l = [] then others else queue)) := by
  refine hu.updHead (fun x => ?_) (by rw [Head.recorded_eq, Head.recorded_eq])
  unfold Head.afterIntake
  rw [Head.refreshHold_eq_self]
  · rfl
  · have hdue : ∀ hd : Head, hd.laneBuffer = leftBuffer tag buf l → hd.reception = none → hd.holdDue = false := by
      intro hd hbuffer hreception
      rw [← Bool.not_eq_true, Head.holdDue_iff]
      simp only [Head.bufferRecords, Head.bufferEntries, Head.receivedEntries, hbuffer, hreception]
      omega
    rw [hdue _ rfl rfl, Head.recorded_eq]
    exact hfree.symm

/-! ### Leading sections without entries (R92) -/

theorem frontReady_dropWhile {tag : Byte} {secs : List RecordSection} :
    FrontReady (leftBuffer tag [] (secs.dropWhile (fun sec => sec.entries.isEmpty))) := by
  intro r more heq
  unfold leftBuffer at heq
  split_ifs at heq with hleft
  obtain ⟨rfl, rfl⟩ := List.cons.inj heq
  obtain ⟨sec, secs', hcons⟩ := List.exists_cons_of_ne_nil hleft
  have hhead := List.head_dropWhile_not (fun sec : RecordSection => sec.entries.isEmpty) hleft
  refine ⟨sec, secs', hcons, fun hempty => ?_⟩
  simp [hcons, hempty] at hhead

theorem leftBuffer_dropWhile_le (tag : Byte) (secs : List RecordSection) :
    (leftBuffer tag [] (secs.dropWhile (fun sec => sec.entries.isEmpty))).length ≤ 1
      ∧ ((leftBuffer tag [] (secs.dropWhile (fun sec => sec.entries.isEmpty))).map BufferedRecord.entryCount).sum
        ≤ (secs.map (fun sec => sec.entries.length)).sum := by
  have hle : ((secs.dropWhile (fun sec => sec.entries.isEmpty)).map (fun sec => sec.entries.length)).sum
      ≤ (secs.map (fun sec => sec.entries.length)).sum :=
    ((List.dropWhile_sublist _).map _).sum_le_sum fun _ _ => Nat.zero_le _
  unfold leftBuffer
  split_ifs
  · simp
  · simpa [BufferedRecord.entryCount] using hle

/-- The sections that the intake passes over in front of the first with entries. -/
theorem empties_takeWhile {te : TrackEntry} {secs : List RecordSection}
    (hsites : ∀ sec ∈ secs, sec.entries = [] → te.sites.getLsbD sec.site.val = true) :
    ∀ sec ∈ secs.takeWhile (fun sec => sec.entries.isEmpty), sec.entries = [] ∧ te.sites.getLsbD sec.site.val = true := by
  intro sec hsec
  have hempty : sec.entries = [] :=
    List.isEmpty_iff.mp (List.mem_takeWhile_imp (p := fun sec : RecordSection => sec.entries.isEmpty) hsec)
  exact ⟨hempty, hsites sec (List.takeWhile_subset _ hsec) hempty⟩

/-- Settles O38: the framing check by the rules on what is read, the record by skip-ahead, the place that it takes in the
buffer, and the intake's way to the next entry. -/
theorem resultRecordIsMatchedAndBuffered : Obligations.ResultRecordIsMatchedAndBuffered := by
  unfold Obligations.ResultRecordIsMatchedAndBuffered
  constructor
  · intro mode unit secs hlen isEntry isSection
    obtain _ | ⟨tag, _ | ⟨flags, rest⟩⟩ := unit <;> simp at hlen
    rw [readRecord_iff mode tag flags rest (by rintro rfl; simp at hlen) secs]
    constructor
    · rintro ⟨parts, rfl, hrest⟩
      exact ⟨tag, flags, parts, rfl, hrest⟩
    · rintro ⟨tag', flags', parts, heq, hrest⟩
      simp only [List.cons.injEq] at heq
      obtain ⟨rfl, rfl, rfl⟩ := heq
      exact ⟨parts, rfl, hrest⟩
  · intro s h tag flags rest secs answered skipped later e hd unit causes buffered left skips taken hstate hsignal hfree
      hreception hrest hread hrecords hentries htrack hanswered hskipped he htag hlater
    have htaken {t : State} {buffer : List BufferedRecord} {queue : List TrackEntry}
        (ht : s.Reported t h skipped (flags.getLsbD 7)
          (hd.recorded ⟨answered, skipped, e, later⟩ (flags.getLsbD 7) buffer queue)) : taken buffer queue t :=
      ⟨ht.onlyHead, ht.frame, ht.upstream, ht.head.trans (by rw [Head.recorded_eq])⟩
    clear_value taken
    have hlen : 3 ≤ unit.length := by
      obtain ⟨b, bs, rfl⟩ := List.exists_cons_of_ne_nil hrest
      simp [unit]
    have hcount := countEntries_of_readRecord hlen hread
    have hsum : (hd.laneBuffer.map BufferedRecord.entryCount).sum + countEntries hd.setup.checkMode unit < 1024 := by
      rw [hcount]
      simpa [buffered, BufferedRecord.entryCount] using hentries
    have hpass : (hd.laneBuffer.map BufferedRecord.entryCount).sum + min (countEntries hd.setup.checkMode unit) 1023 < 1024 :=
      (Nat.add_le_add_left (min_le_left _ _) _).trans_lt hsum
    have hlight : countEntries hd.setup.checkMode unit ≤ 1024 := by omega
    have hm : matchTag (byteAt unit 0) hd.tracking = some ⟨answered, skipped, e, later⟩ := by
      rw [htrack]
      exact matchTag_eq_some hanswered hskipped he htag
    obtain ⟨u, hu, hreport⟩ := State.acceptRecord_ended (s := s) (h := h) (m := ⟨answered, skipped, e, later⟩)
      (flags.getLsbD 7) tag secs hanswered hlater
    have hexec : exec (.resultRecord h unit) s = .next ((u.settleIntake h).settleLane h) := by
      have hended := s.head_ended h
      rw [exec_resultRecord (Head.letsEnd_of hsignal hfree (.inr (.inr ⟨hrecords, hpass⟩))),
        State.endRecord_of_offered hreception hlen hlight,
        State.offerRecord_of_taken (by rw [hended]; exact hstate) (by rw [hended]; exact hm) (by rw [hended]; exact hread)]
      exact congrArg (fun x => Host.Outcome.next (State.settleLane x h)) hu
    have hqueue : ∀ k ∈ answered ++ { e with deadline := .answered } :: later, k.deadline ≠ .running 0 := by
      intro k hk
      rcases List.mem_append.mp hk with hk | hk
      · simp [hanswered k hk]
      · rcases List.mem_cons.mp hk with rfl | hk
        · simp
        · exact hlater k hk
    constructor
    · intro hfront
      obtain ⟨hheld, hdue, hnot⟩ := hreport.settleLane_recorded hfree (by simpa using hrecords) hentries hqueue
      have hsettle := State.settleLane_of_released hheld hdue hnot
      have hready : FrontReady (u.head h).laneBuffer := by
        rw [hreport.head, Head.recorded_eq]
        intro r more heq
        obtain ⟨r', more', heq', sec, secs', hsec⟩ := hfront
        obtain ⟨rfl, rfl⟩ := List.cons.inj (heq.symm.trans heq')
        exact ⟨sec, secs', hsec⟩
      refine ⟨u, ?_, htaken hreport⟩
      rw [hexec, State.settleIntake, State.advance_of_ready hready, hsettle, hsettle]
    · rintro hempty rfl hsites
      obtain ⟨hshort, hfew⟩ := leftBuffer_dropWhile_le tag secs
      have hentries' : ((leftBuffer tag [] left).map BufferedRecord.entryCount).sum < 1024 := by
        rw [← hcount] at hfew
        exact hfew.trans_lt (by omega)
      have hrecords' : (leftBuffer tag [] left).length < 32 := hshort.trans_lt (by omega)
      have hbuf : (u.head h).laneBuffer
          = ⟨tag, secs.takeWhile (fun sec => sec.entries.isEmpty) ++ left⟩ :: [] := by
        rw [hreport.head, Head.recorded_eq, List.takeWhile_append_dropWhile]
        simp [hd] at hempty
        simp [hempty]
      have hhead : (u.head h).tracking = { e with deadline := .answered } :: later := by
        rw [hreport.head, Head.recorded_eq]
        rfl
      have hintake := State.settleIntake_eq (l := left) hhead rfl _ (empties_takeWhile hsites) hbuf frontReady_dropWhile
      have hafter := hreport.afterIntake_recorded hfree tag [] later left hrecords' hentries'
      obtain ⟨hheld, hdue, hnot⟩ := hafter.settleLane_recorded hfree hrecords' hentries'
        (by split_ifs; exacts [hlater, hqueue])
      generalize u.updHead h (Head.afterIntake tag [] later left) = t at *
      rw [hexec, hintake]
      constructor
      · intro hleft
        rw [leftBuffer, if_neg hleft, if_neg hleft] at hafter
        refine ⟨t, ?_, htaken hafter⟩
        rw [if_neg hleft, State.settleDeadlines_eq_self hnot, State.settleLane_of_released hheld hdue hnot]
      · intro hleft
        rw [leftBuffer, if_pos hleft, if_pos hleft] at hafter
        refine ⟨t, ?_, htaken hafter⟩
        rw [if_pos hleft, State.settleDeadlines_eq_self (by rwa [State.tracking_testDrain]),
          State.settleLane_testDrain hheld hdue hnot]

end Sys2Proof.Machine
end

section
/-! FAIL_ENTRY_ADMIT: the lane of a head after the intake of one entry (2.9, 5.6). -/

namespace Sys2Proof.Machine

/-! ### What the gate leaves of the lane -/

/-- The lane of a head is as that of another: its buffer, its hold, its reception and its tracking queue. -/
structure Head.LaneKept (hd hd' : Head) : Prop where
  laneBuffer : hd'.laneBuffer = hd.laneBuffer
  laneHeld : hd'.laneHeld = hd.laneHeld
  reception : hd'.reception = hd.reception
  tracking : hd'.tracking = hd.tracking

theorem Head.LaneKept.refl (hd : Head) : hd.LaneKept hd := ⟨rfl, rfl, rfl, rfl⟩

theorem Head.LaneKept.trans {a b c : Head} (h1 : a.LaneKept b) (h2 : b.LaneKept c) : a.LaneKept c :=
  ⟨h2.1.trans h1.1, h2.2.trans h1.2, h2.3.trans h1.3, h2.4.trans h1.4⟩

theorem State.laneKept_stopSite (s : State) (h : HeadId) (i : SiteId) (why : StopReason) :
    (s.head h).LaneKept ((s.stopSite h i why).head h) := by
  unfold State.stopSite
  split
  · rw [State.head_raise_self, State.head_updHead_self, Head.stopSite_eq]
    exact ⟨rfl, rfl, rfl, rfl⟩
  · exact .refl _

theorem State.laneKept_gate (s : State) (h : HeadId) (i : SiteId) (logFlag : Bool) (f : Fail) :
    (s.head h).LaneKept ((State.gate h i logFlag s f).head h) := by
  cases hstopped : ((s.head h).site i).stopped with
  | true =>
    rw [State.gate, if_pos hstopped]
    exact .refl _
  | false =>
    have hlogged : (s.head h).LaneKept ((s.failLogged h i logFlag f).head h) := by
      rw [State.head_failLogged, State.failHead_frame]
      exact ⟨rfl, rfl, rfl, rfl⟩
    rw [State.gate_of_live hstopped, State.passFail_failLogged]
    split_ifs
    · exact hlogged.trans (State.laneKept_stopSite _ h i _)
    · exact hlogged

theorem State.laneKept_gates (h : HeadId) (i : SiteId) (logFlag : Bool) (fails : List Fail) (s : State) :
    (s.head h).LaneKept ((fails.foldl (State.gate h i logFlag) s).head h) := by
  induction fails generalizing s with
  | nil => exact .refl _
  | cons f fails ih => exact (s.laneKept_gate h i logFlag f).trans (ih _)

/-! ### The hold that is left (R35, R82) -/

/-- The lane of the head when the sections `l` are left of its front record. -/
def Head.left (hd : Head) (tag : Byte) (buf : List BufferedRecord) (others : List TrackEntry) (l : List RecordSection)
    (x : Head) : Head :=
  { x with
    laneBuffer := leftBuffer tag buf l
    laneHeld := ({ hd with laneBuffer := leftBuffer tag buf l } : Head).holdDue
    tracking :=
      if hd.laneHeld = true ∧ ({ hd with laneBuffer := leftBuffer tag buf l } : Head).holdDue = false then
        (if l = [] then others else hd.tracking).map (fun k => { k with deadline := k.deadline.resume })
      else if l = [] then others else hd.tracking }

/-- A buffer that does not hold its lane does not do so with less in it. -/
theorem Head.holdDue_of_lighter {hd : Head} {buffer : List BufferedRecord} (hlen : buffer.length ≤ hd.laneBuffer.length)
    (hsum : (buffer.map BufferedRecord.entryCount).sum ≤ (hd.laneBuffer.map BufferedRecord.entryCount).sum)
    (hdue : ({ hd with laneBuffer := buffer } : Head).holdDue = true) : hd.holdDue = true := by
  rw [Head.holdDue_iff] at *
  simp only [Head.bufferRecords, Head.bufferEntries] at *
  have hreceived : ({ hd with laneBuffer := buffer } : Head).receivedEntries = hd.receivedEntries := rfl
  rw [hreceived] at hdue
  omega

theorem Head.holdDue_congr {hd hd' : Head} (hbuffer : hd'.laneBuffer = hd.laneBuffer)
    (hreception : hd'.reception = hd.reception) : hd'.holdDue = hd.holdDue := by
  unfold Head.holdDue Head.bufferRecords Head.bufferEntries Head.receivedEntries
  rw [hbuffer, hreception]

/-- A lane that is not to be held any more is released, and its paused deadlines run on; else nothing changes. -/
theorem Head.refreshHold_of_lighter {hd : Head} (hheld : hd.holdDue = true → hd.laneHeld = true) :
    hd.refreshHold = { hd with
      laneHeld := hd.holdDue
      tracking := if hd.laneHeld = true ∧ hd.holdDue = false then
          hd.tracking.map (fun k => { k with deadline := k.deadline.resume })
        else hd.tracking } := by
  cases hdue : hd.holdDue with
  | true =>
    have hwas := hheld hdue
    rw [Head.refreshHold_eq_self (hdue.trans hwas.symm), if_neg (fun hno => Bool.false_ne_true hno.2.symm), ← hwas]
  | false =>
    cases hwas : hd.laneHeld with
    | true => rw [Head.refreshHold_released hdue hwas, if_pos (by simp)]
    | false =>
      rw [Head.refreshHold_eq_self (hdue.trans hwas.symm), if_neg (fun hno => Bool.false_ne_true hno.1), ← hwas]

/-- The intake leaves the lane of a head so, whatever else it has done to it. -/
theorem Head.afterIntake_eq_left {hd x : Head} {tag : Byte} {buf : List BufferedRecord} (others : List TrackEntry)
    {l : List RecordSection} (hlane : x.laneHeld = hd.laneHeld) (hreception : x.reception = hd.reception)
    (hqueue : x.tracking = hd.tracking) (hheld : hd.laneHeld = hd.holdDue)
    (hlen : (leftBuffer tag buf l).length ≤ hd.laneBuffer.length)
    (hsum : ((leftBuffer tag buf l).map BufferedRecord.entryCount).sum
      ≤ (hd.laneBuffer.map BufferedRecord.entryCount).sum) :
    x.afterIntake tag buf others l = hd.left tag buf others l x := by
  have hlighter := Head.holdDue_of_lighter hlen hsum
  have hdue (q : List TrackEntry) : ({ x with laneBuffer := leftBuffer tag buf l, tracking := q } : Head).holdDue
      = ({ hd with laneBuffer := leftBuffer tag buf l } : Head).holdDue := Head.holdDue_congr rfl hreception
  unfold Head.afterIntake Head.left
  rw [Head.refreshHold_of_lighter, hdue, hqueue, hlane]
  rw [hdue]
  exact fun hnow => hlane.trans (hheld.trans (hlighter hnow))

end Sys2Proof.Machine
end

section
/-! FAIL_ENTRY_ADMIT: the front entry, and what becomes of it (5.6). -/

namespace Sys2Proof.Machine

/-! ### The front entry (R92 to R97) -/

section Front

variable {s : State} {h : HeadId} {tag : Byte} {i : SiteId} {e : FailEntry} {es : List FailEntry}
  {secs : List RecordSection} {buf : List BufferedRecord} {te : TrackEntry} {others : List TrackEntry}

theorem State.exec_failEntryAdmit (hbuf : (s.head h).laneBuffer = ⟨tag, ⟨i, e :: es⟩ :: secs⟩ :: buf)
    (htrack : (s.head h).tracking = te :: others) (hte : te.deadline = .answered) :
    exec (.failEntryAdmit h) s = .next (if te.sites.getLsbD i.val then s.intakeEntry h te i e
      else (s.discardSection h).settleIntake h) := by
  have hfront : frontEntry (s.head h).tracking = some te := by
    rw [htrack]
    exact List.find?_cons_of_pos (by simp [TrackEntry.unanswered, hte])
  change Host.Outcome.next (s.intake h) = _
  unfold State.intake
  rw [hbuf, hfront]

theorem Deadline.resume_ne_running {d : Deadline} (hrunning : d ≠ .running 0) (hpaused : d ≠ .paused 0) :
    d.resume ≠ .running 0 := by
  cases d with
  | paused n => simpa [Deadline.resume] using hpaused
  | running n => exact hrunning
  | waitingSend => exact hrunning
  | answered => exact hrunning

/-- With no deadline at its end none is overdue in the lane that is left. -/
theorem Head.not_overdue_left {hd : Head} (htrack : hd.tracking = te :: others) (l : List RecordSection) (x : Head)
    (hdeadlines : ∀ k ∈ hd.tracking, k.deadline ≠ .running 0 ∧ k.deadline ≠ .paused 0) :
    ¬ Overdue (hd.left tag buf others l x).tracking := by
  have hqueue : ∀ k ∈ (if l = [] then others else hd.tracking), k.deadline ≠ .running 0 ∧ k.deadline ≠ .paused 0 := by
    intro k hk
    refine hdeadlines k ?_
    split_ifs at hk
    · rw [htrack]
      exact List.mem_cons_of_mem _ hk
    · exact hk
  refine not_overdue_of_forall fun k hk => ?_
  unfold Head.left at hk
  dsimp only at hk
  by_cases hreleased : hd.laneHeld = true ∧ ({ hd with laneBuffer := leftBuffer tag buf l } : Head).holdDue = false
  · rw [if_pos hreleased] at hk
    obtain ⟨x, hx, rfl⟩ := List.mem_map.mp hk
    exact Deadline.resume_ne_running (hqueue x hx).1 (hqueue x hx).2
  · rw [if_neg hreleased] at hk
    exact (hqueue k hk).1

/-- The state in which the intake ends with the sections `l` left of the front record. -/
def State.finished (s : State) (h : HeadId) (l : List RecordSection) : State := if l = [] then s.testDrain h else s

theorem leftBuffer_length_le (tag : Byte) (buf : List BufferedRecord) (l : List RecordSection) :
    (leftBuffer tag buf l).length ≤ buf.length + 1 := by
  unfold leftBuffer
  split_ifs <;> simp

theorem leftBuffer_entries_le (tag : Byte) (buf : List BufferedRecord) (l : List RecordSection) :
    ((leftBuffer tag buf l).map BufferedRecord.entryCount).sum
      ≤ (l.map (fun sec => sec.entries.length)).sum + (buf.map BufferedRecord.entryCount).sum := by
  unfold leftBuffer
  split_ifs <;> simp [BufferedRecord.entryCount]

/-- The intake of the front entry ends so, when `u` is the state after the entry itself. -/
theorem State.intake_ends {u : State} (hexec : exec (.failEntryAdmit h) s = .next (u.settleIntake h))
    (hbuf : (s.head h).laneBuffer = ⟨tag, ⟨i, e :: es⟩ :: secs⟩ :: buf)
    (htrack : (s.head h).tracking = te :: others) (hte : te.deadline = .answered)
    (hheld : (s.head h).laneHeld = (s.head h).holdDue) (hlane : (u.head h).laneHeld = (s.head h).laneHeld)
    (hreception : (u.head h).reception = (s.head h).reception) (hqueue : (u.head h).tracking = (s.head h).tracking)
    {l : List RecordSection} (empties : List RecordSection)
    (hleft : (u.head h).laneBuffer = ⟨tag, empties ++ l⟩ :: buf)
    (hempties : ∀ sec ∈ empties, sec.entries = [] ∧ te.sites.getLsbD sec.site.val = true)
    (hfew : (l.map (fun sec => sec.entries.length)).sum
      ≤ ((⟨i, e :: es⟩ :: secs : List RecordSection).map (fun sec => sec.entries.length)).sum)
    (hready : FrontReady (leftBuffer tag buf l)) :
    exec (.failEntryAdmit h) s
        = .next (((u.updHead h ((s.head h).left tag buf others l)).finished h l).settleDeadlines h)
      ∧ ((∀ k ∈ (s.head h).tracking, k.deadline ≠ .running 0 ∧ k.deadline ≠ .paused 0) →
        exec (.failEntryAdmit h) s = .next ((u.updHead h ((s.head h).left tag buf others l)).finished h l)) := by
  have hsum : ((leftBuffer tag buf l).map BufferedRecord.entryCount).sum
      ≤ ((s.head h).laneBuffer.map BufferedRecord.entryCount).sum := by
    rw [hbuf]
    exact (leftBuffer_entries_le tag buf l).trans (Nat.add_le_add_right hfew _)
  have hlen : (leftBuffer tag buf l).length ≤ (s.head h).laneBuffer.length := by
    rw [hbuf]
    exact leftBuffer_length_le tag buf l
  have hafter : u.updHead h (Head.afterIntake tag buf others l) = u.updHead h ((s.head h).left tag buf others l) :=
    State.updHead_congr u (Head.afterIntake_eq_left others hlane hreception hqueue hheld hlen hsum)
  have hsettle := State.settleIntake_eq (hqueue.trans htrack) hte empties hempties hleft hready
  rw [hafter] at hsettle
  have hend := hexec.trans (congrArg Host.Outcome.next hsettle)
  refine ⟨hend, fun hdeadlines => hend.trans (congrArg Host.Outcome.next (State.settleDeadlines_eq_self ?_))⟩
  have htracking : (((u.updHead h ((s.head h).left tag buf others l)).finished h l).head h).tracking
      = ((u.updHead h ((s.head h).left tag buf others l)).head h).tracking := by
    unfold State.finished
    split_ifs
    · exact State.tracking_testDrain _ h
    · rfl
  change ¬ Overdue (((u.updHead h ((s.head h).left tag buf others l)).finished h l).head h).tracking
  rw [htracking, State.head_updHead_self]
  exact Head.not_overdue_left htrack l _ hdeadlines

/-- The sections that are left of the front record without its front entry. -/
def unreadSections (i : SiteId) (es : List FailEntry) (secs : List RecordSection) : List RecordSection :=
  if es = [] then secs else ⟨i, es⟩ :: secs

theorem unreadSections_entries_le (i : SiteId) (e : FailEntry) (es : List FailEntry) (secs : List RecordSection) :
    ((unreadSections i es secs).map (fun sec => sec.entries.length)).sum
      ≤ ((⟨i, e :: es⟩ :: secs : List RecordSection).map (fun sec => sec.entries.length)).sum := by
  unfold unreadSections
  split_ifs <;> simp

theorem State.head_dropFront (hbuf : (s.head h).laneBuffer = ⟨tag, ⟨i, e :: es⟩ :: secs⟩ :: buf) :
    (s.dropFront h).head h = { s.head h with laneBuffer := ⟨tag, ⟨i, es⟩ :: secs⟩ :: buf } := by
  unfold State.dropFront
  rw [State.head_updHead_self, hbuf]
  rfl

/-- The intake of an entry for a site of the snapshot ends so. -/
theorem State.intake_ends_unread {u : State} (hexec : exec (.failEntryAdmit h) s = .next (u.settleIntake h))
    (hbuf : (s.head h).laneBuffer = ⟨tag, ⟨i, e :: es⟩ :: secs⟩ :: buf)
    (htrack : (s.head h).tracking = te :: others) (hte : te.deadline = .answered)
    (hheld : (s.head h).laneHeld = (s.head h).holdDue) (hi : te.sites.getLsbD i.val = true)
    (hkept : ((s.dropFront h).head h).LaneKept (u.head h))
    (hready : FrontReady (leftBuffer tag buf (unreadSections i es secs))) :
    let t := (u.updHead h ((s.head h).left tag buf others (unreadSections i es secs)))
    exec (.failEntryAdmit h) s = .next ((t.finished h (unreadSections i es secs)).settleDeadlines h)
      ∧ ((∀ k ∈ (s.head h).tracking, k.deadline ≠ .running 0 ∧ k.deadline ≠ .paused 0) →
        exec (.failEntryAdmit h) s = .next (t.finished h (unreadSections i es secs))) := by
  obtain ⟨hbuffer, hlane, hreception, hqueue⟩ := hkept
  rw [State.head_dropFront hbuf] at hbuffer hlane hreception hqueue
  have hsplit : (⟨i, es⟩ :: secs : List RecordSection) = (if es = [] then [⟨i, es⟩] else []) ++ unreadSections i es secs := by
    unfold unreadSections
    split_ifs <;> rfl
  refine State.intake_ends hexec hbuf htrack hte hheld hlane hreception hqueue (if es = [] then [⟨i, es⟩] else [])
    (by rw [hbuffer, ← hsplit]) (fun sec hsec => ?_) (unreadSections_entries_le i e es secs) hready
  split_ifs at hsec with hes
  · rw [List.mem_singleton.mp hsec]
    exact ⟨hes, hi⟩
  · exact absurd hsec List.not_mem_nil

/-- A stray section is discarded whole (R92). -/
theorem State.intake_ends_stray (hbuf : (s.head h).laneBuffer = ⟨tag, ⟨i, e :: es⟩ :: secs⟩ :: buf)
    (htrack : (s.head h).tracking = te :: others) (hte : te.deadline = .answered)
    (hheld : (s.head h).laneHeld = (s.head h).holdDue) (hi : te.sites.getLsbD i.val = false)
    (hready : FrontReady (leftBuffer tag buf secs)) :
    let t := ((s.discardSection h).updHead h ((s.head h).left tag buf others secs))
    exec (.failEntryAdmit h) s = .next ((t.finished h secs).settleDeadlines h)
      ∧ ((∀ k ∈ (s.head h).tracking, k.deadline ≠ .running 0 ∧ k.deadline ≠ .paused 0) →
        exec (.failEntryAdmit h) s = .next (t.finished h secs)) := by
  have hexec := State.exec_failEntryAdmit hbuf htrack hte
  rw [hi, if_neg Bool.false_ne_true] at hexec
  have hhead : (s.discardSection h).head h = { s.head h with
      laneBuffer := ⟨tag, secs⟩ :: buf, strays := satSucc Config.countTop (s.head h).strays } := by
    unfold State.discardSection
    rw [State.head_updHead_self, hbuf]
    rfl
  exact State.intake_ends hexec hbuf htrack hte hheld (by rw [hhead]) (by rw [hhead]) (by rw [hhead]) []
    (by rw [hhead]; rfl) (fun _ hsec => absurd hsec List.not_mem_nil) (by simp) hready

/-- An entry that fails the entry check, or lies outside its burst, leaves with CHECK and RESULT_LOSS (R94, R95). -/
theorem State.raised_discardEntry (s : State) (h : HeadId) (i : SiteId) : s.Raised (s.discardEntry h i) h .resultLoss
    (Head.lose .check (oneSite i) { s.head h with laneBuffer := dropEntry (s.head h).laneBuffer }) := by
  unfold State.discardEntry State.dropFront State.lose
  rw [State.updHead_updHead]
  exact s.raised_updHead h .resultLoss
    (fun hd => Head.lose .check (oneSite i) { hd with laneBuffer := dropEntry hd.laneBuffer }) rfl rfl

theorem State.laneKept_discardEntry (s : State) (h : HeadId) (i : SiteId) :
    ((s.dropFront h).head h).LaneKept ((s.discardEntry h i).head h) := by
  rw [(s.raised_discardEntry h i).head, State.dropFront, State.head_updHead_self]
  exact ⟨rfl, rfl, rfl, rfl⟩

/-- The sites after a CHECK on one of them (R56). -/
theorem Head.site_check (hd : Head) (i j : SiteId) : (Head.lose .check (oneSite i) hd).site j
    = if j = i ∧ (hd.site j).enabled = true ∧ (hd.site j).verdict.isFinal = false then
        { hd.site j with causes := (hd.site j).causes ||| LossCause.check.bit }
      else hd.site j := by
  rw [Head.site_lose]
  refine if_congr (and_congr_left' ?_) rfl rfl
  rw [oneSite, siteSet_getLsbD, beq_iff_eq]

end Front

/-! ### The entry check (R94) -/

theorem FailEntry.checkPasses_iff (mode : CheckMode) (e : FailEntry) : e.checkPasses mode = true
    ↔ (mode = .even → e.ones % 2 = 0) ∧ (mode = .odd → e.ones % 2 = 1) := by
  cases mode <;> simp [FailEntry.checkPasses]

/-! ### The fails of a site without a limit (R51) -/

/-- The head with fails of a site counted. -/
def Head.countFails (i : SiteId) (n : Nat) (hd : Head) : Head :=
  { hd with sites := tabulate (fun j =>
      if j = i then { hd.site j with rawFails := min ((hd.site j).rawFails + n) 65535 } else hd.site j) }

theorem Head.site_countFails (i : SiteId) (n : Nat) (hd : Head) (j : SiteId) : (hd.countFails i n).site j
    = if j = i then { hd.site j with rawFails := min ((hd.site j).rawFails + n) 65535 } else hd.site j :=
  tabulate_getElem_fin _ j

/-- The item that a mapped fail becomes. -/
def Fail.item? (h : HeadId) (i : SiteId) (generation : BitVec 8) (logFlag : Bool) : Fail → Option FailItem
  | .mapped b row col v => some ⟨h, i, b, row, col, v, generation, logFlag⟩
  | .unmapped _ _ => none

theorem Head.countFails_zero (hd : Head) (i : SiteId) (hraw : (hd.site i).rawFails ≤ 65535) :
    hd.countFails i 0 = hd := by
  have hsites : hd.sites = (hd.countFails i 0).sites := Head.sites_eq_tabulate fun j => by
    split_ifs with hj
    · rw [hj, Nat.add_zero, min_eq_left hraw]
    · rfl
  exact (congrArg (fun x => ({ hd with sites := x } : Head)) hsites).symm

theorem Head.countFails_succ (hd : Head) (i : SiteId) (n : Nat) :
    (hd.countFails i 1).countFails i n = hd.countFails i (n + 1) := by
  have hsites : ((hd.countFails i 1).countFails i n).sites = (hd.countFails i (n + 1)).sites :=
    Head.sites_eq_tabulate fun j => by
      rw [Head.site_countFails, Head.site_countFails]
      split_ifs
      · have hmin : min (min ((hd.site j).rawFails + 1) 65535 + n) 65535 = min ((hd.site j).rawFails + (n + 1)) 65535 := by
          omega
        rw [hmin]
      · rfl
  exact congrArg (fun x => ({ hd with sites := x } : Head)) hsites

theorem Head.countFail_mapped (hd : Head) (i : SiteId) {f : Fail} (hf : f.isMapped = true) :
    hd.countFail i f = hd.countFails i 1 := by
  have hsites : (hd.countFail i f).sites = (hd.countFails i 1).sites := Head.sites_eq_tabulate fun j => by
    rw [Head.site_countFail, hf]
    split_ifs with hj
    · rw [hj, Bool.not_true, Bool.or_false]
    · rfl
  rw [Head.countFail_frame, hsites]
  rfl

/-- A mapped fail of a site that is not stopped and has no limit is counted and joins the Analysis Queue. -/
theorem State.gate_of_unlimited {s : State} {h : HeadId} {i : SiteId} (hlive : ((s.head h).site i).stopped = false)
    (hlimit : ((s.head h).site i).failLimit = 0) (logFlag : Bool) {f : Fail} (hf : f.isMapped = true) :
    State.gate h i logFlag s f = { s.updHead h (Head.countFails i 1) with
      analysis := s.analysis ++ (f.item? h i (s.head h).generation logFlag).toList } := by
  have hhits : ((s.head h).site i).hitsLimit = false := by simp [Site.hitsLimit, hlimit]
  have hstops : s.failStops h i f = false := by simp [State.failStops, hhits, hf]
  have hcount : s.updHead h (fun hd => hd.countFail i f) = s.updHead h (Head.countFails i 1) :=
    State.updHead_congr s (Head.countFail_mapped _ i hf)
  rw [State.gate_of_live hlive, State.passFail_failLogged, hstops, if_neg Bool.false_ne_true]
  cases f with
  | unmapped => exact absurd hf Bool.false_ne_true
  | mapped b row col v =>
    have hitems : s.failItems h i logFlag (.mapped b row col v)
        = [⟨h, i, b, row, col, v, (s.head h).generation, logFlag⟩] := if_neg (by simp [hhits])
    rw [hitems, ← hcount]
    rfl

/-- Mapped fails of such a site are counted, and join the Analysis Queue in their order. -/
theorem State.gates_of_unlimited {h : HeadId} {i : SiteId} (logFlag : Bool) (fails : List Fail)
    (hmapped : ∀ f ∈ fails, f.isMapped = true) (s : State) (hlive : ((s.head h).site i).stopped = false)
    (hlimit : ((s.head h).site i).failLimit = 0) (hraw : ((s.head h).site i).rawFails ≤ 65535) :
    fails.foldl (State.gate h i logFlag) s = { s.updHead h (Head.countFails i fails.length) with
      analysis := s.analysis ++ fails.filterMap (Fail.item? h i (s.head h).generation logFlag) } := by
  induction fails generalizing s with
  | nil =>
    rw [List.foldl_nil, List.length_nil, State.updHead_eq_self s (Head.countFails_zero _ i hraw), List.filterMap_nil,
      List.append_nil]
  | cons f fails ih =>
    have hone := State.gate_of_unlimited hlive hlimit logFlag (hmapped f List.mem_cons_self)
    have hhead : (State.gate h i logFlag s f).head h = (s.head h).countFails i 1 := by
      rw [hone]
      exact State.head_updHead_self ..
    have hsite : ((State.gate h i logFlag s f).head h).site i
        = { (s.head h).site i with rawFails := min (((s.head h).site i).rawFails + 1) 65535 } := by
      rw [hhead, Head.site_countFails, if_pos rfl]
    rw [List.foldl_cons, ih (fun x hx => hmapped x (List.mem_cons_of_mem _ hx)) _ (by rw [hsite]; exact hlive)
      (by rw [hsite]; exact hlimit) (by rw [hsite]; exact min_le_right _ _), hhead, hone]
    have hupd : (s.updHead h (Head.countFails i 1)).updHead h (Head.countFails i fails.length)
        = s.updHead h (Head.countFails i (f :: fails).length) := by
      rw [State.updHead_updHead]
      exact State.updHead_congr s (Head.countFails_succ _ i _)
    have hitems : s.analysis ++ (f.item? h i (s.head h).generation logFlag).toList
        ++ fails.filterMap (Fail.item? h i (s.head h).generation logFlag)
        = s.analysis ++ (f :: fails).filterMap (Fail.item? h i (s.head h).generation logFlag) := by
      rw [List.append_assoc, List.filterMap_cons]
      cases f.item? h i (s.head h).generation logFlag <;> rfl
    rw [← hupd, ← hitems]
    rfl

/-- The fails of a stopped site are discarded uncounted (R51). -/
theorem State.gates_of_stopped {s : State} {h : HeadId} {i : SiteId} (hstopped : ((s.head h).site i).stopped = true)
    (logFlag : Bool) (fails : List Fail) : fails.foldl (State.gate h i logFlag) s = s := by
  induction fails with
  | nil => rfl
  | cons f fails ih => rw [List.foldl_cons, State.gate, if_pos hstopped, ih]

end Sys2Proof.Machine
end

section
/-! FAIL_ENTRY_ADMIT: the intake of one entry (3.6, 5.6). -/

namespace Sys2Proof.Machine

/-- Settles O42: the intake's end by the rule on it, for the section, the entry or the fails that leave. -/
theorem failEntryAdmitTakesInOneEntry : Obligations.FailEntryAdmitTakesInOneEntry := by
  unfold Obligations.FailEntryAdmitTakesInOneEntry
  intro s h tag i e es secs buf te others hd fails ones passes unread buffer
  split
  rename_i arriving own heq
  intro held left ends waits hbuf htrack hte hcap
  have hcounts : own = hd.receivedEntries ∧ hd.bufferRecords = hd.laneBuffer.length + arriving := by
    unfold Head.receivedEntries Head.bufferRecords
    rcases hreception : hd.reception with _ | n | _ <;>
      · simp only [hreception, Prod.mk.injEq] at heq
        obtain ⟨rfl, rfl⟩ := heq
        exact ⟨rfl, rfl⟩
  have hheld (l : List RecordSection) : held l = ({ hd with laneBuffer := buffer l } : Head).holdDue := by
    have hrecords : ({ hd with laneBuffer := buffer l } : Head).bufferRecords = (buffer l).length + arriving :=
      congrArg _ (Nat.add_left_cancel hcounts.2)
    rw [Bool.eq_iff_iff, Head.holdDue_iff, hrecords, decide_eq_true_iff, hcounts.1]
    rfl
  have hleft : left = hd.left tag buf others := by
    funext l x
    have hdue := hheld l
    clear_value held
    simp only [left, hdue]
    rfl
  have hends {l : List RecordSection} {t : State}
      (ht : exec (.failEntryAdmit h) s = .next ((t.finished h l).settleDeadlines h)
        ∧ ((∀ k ∈ hd.tracking, k.deadline ≠ .running 0 ∧ k.deadline ≠ .paused 0) →
          exec (.failEntryAdmit h) s = .next (t.finished h l))) : ends l t := ht
  have hwaits {l : List RecordSection} (hl : waits l) : FrontReady (leftBuffer tag buf l) := hl
  clear_value left ends waits
  subst hleft
  have hexec := State.exec_failEntryAdmit hbuf htrack hte
  refine ⟨fun hi hw => ?_, fun hi => ?_⟩
  · refine ⟨_, hends (State.intake_ends_stray hbuf htrack hte hcap.held hi (hwaits hw)), ?_, rfl, ?_⟩
    · exact (State.onlyHead_updHead s h _).trans (State.onlyHead_updHead _ h _)
    · rw [State.head_updHead_self]
      unfold State.discardSection
      rw [State.head_updHead_self]
      rfl
  rw [hi, if_pos rfl] at hexec
  have hchecks : (!e.checkPasses hd.setup.checkMode || decide (te.vectors ≤ e.offset.toNat)) = true
      ↔ ¬ passes ∨ te.vectors ≤ e.offset.toNat := by
    rw [Bool.or_eq_true, Bool.not_eq_true', ← Bool.not_eq_true, decide_eq_true_iff, FailEntry.checkPasses_iff]
    exact Iff.rfl
  have hunread {u : State} (hu : exec (.failEntryAdmit h) s = .next (u.settleIntake h))
      (hkept : ((s.dropFront h).head h).LaneKept (u.head h)) (hw : waits unread) :
      ends unread (u.updHead h (hd.left tag buf others unread)) :=
    hends (State.intake_ends_unread hu hbuf htrack hte hcap.held hi hkept (hwaits hw))
  refine ⟨fun hw hbad => ?_, fun hpass hoffset => ?_⟩
  · have hraised := s.raised_discardEntry h i
    have hu : exec (.failEntryAdmit h) s = .next ((s.discardEntry h i).settleIntake h) :=
      hexec.trans (congrArg _ (if_pos (hchecks.mpr hbad)))
    refine ⟨_, hunread hu (s.laneKept_discardEntry h i) hw,
      hraised.onlyHead.trans (State.onlyHead_updHead _ h _), ?_, ?_, ?_⟩
    · rw [hraised.frame]
      rfl
    · refine hraised.upstream.trans (congrArg (s.upstream ++ ·) ?_)
      unfold State.noticesFor
      rw [State.head_updHead_self]
      rfl
    · have hsites := Head.sites_eq_tabulate (Head.site_check { hd with laneBuffer := dropEntry hd.laneBuffer } i)
      rw [State.head_updHead_self, hraised.head, hsites]
      rfl
  · have hentry : s.intakeEntry h te i e
        = if fails.countP Fail.isMapped ≤ s.analysisRoom then (s.admitEntry h i te.logArmed fails).settleIntake h else s :=
      if_neg (by rw [hchecks]; rintro (hno | hno); exacts [hno hpass, absurd hoffset (Nat.not_lt.mpr hno)])
    rw [hentry] at hexec
    refine ⟨fun hroom => hexec.trans (congrArg _ (if_neg (Nat.not_le.mpr hroom))), fun hroom hw => ?_⟩
    rw [if_pos (show _ ≤ s.analysisRoom from hroom)] at hexec
    have hend := hunread hexec (State.laneKept_gates h i te.logArmed fails _) hw
    have hdrop : s.updHead h (fun x => { x with laneBuffer := ⟨tag, ⟨i, es⟩ :: secs⟩ :: buf }) = s.dropFront h :=
      State.updHead_congr s (by rw [hbuf]; rfl)
    refine ⟨by rw [hdrop]; exact hend, fun hstopped => ?_, fun hlive hlimit hmapped => ?_⟩
    · have hgates : s.admitEntry h i te.logArmed fails = s.dropFront h :=
        State.gates_of_stopped (by rw [State.head_dropFront hbuf]; exact hstopped) _ _
      rw [hgates] at hend
      refine ⟨_, hend, (State.onlyHead_updHead s h _).trans (State.onlyHead_updHead _ h _), rfl, ?_⟩
      rw [State.head_updHead_self, State.head_dropFront hbuf]
      rfl
    · have hfront := State.head_dropFront hbuf
      have hgates := State.gates_of_unlimited (h := h) (i := i) te.logArmed fails hmapped (s.dropFront h)
        (by rw [hfront]; exact hlive) (by rw [hfront]; exact hlimit) (by rw [hfront]; exact hcap.rawFails i)
      change ends unread ((fails.foldl (State.gate h i te.logArmed) (s.dropFront h)).updHead h _) at hend
      rw [hgates] at hend
      refine ⟨_, fails.filterMap (Fail.item? h i hd.generation te.logArmed), hend, ?_, ?_, ?_, ?_⟩
      · exact ((State.onlyHead_updHead s h _).trans (State.onlyHead_updHead _ h _)).trans (State.onlyHead_updHead _ h _)
      · have hgeneration : ((s.dropFront h).head h).generation = hd.generation := by rw [hfront]
        rw [hgeneration]
        rfl
      · exact congrArg (fails.filterMap ·) (funext fun f => by cases f <;> rfl)
      · have hcounted : ((s.dropFront h).updHead h (Head.countFails i fails.length)).head h
            = ({ hd with laneBuffer := ⟨tag, ⟨i, es⟩ :: secs⟩ :: buf } : Head).countFails i fails.length := by
          rw [State.head_updHead_self, hfront]
        rw [State.head_updHead_self]
        refine (congrArg (hd.left tag buf others unread) hcounted).trans ?_
        rfl

end Sys2Proof.Machine
end
